-- ==== Sys2Proof/Word.lean ====
section
/-!
DEFINITION. The word types of the block: the single bit, the output byte, the 32-bit register word and the 40-bit
command word (spec/00_scope.md R7, R8; spec/30_encoding.md R60, R61).
-/

namespace Sys2Proof

/-- A `Bit` of R7: `true` is 1 (mark, present, set), `false` is 0 (space, absent, clear); R64 fixes that at every
level of the pipeline 1 stands for mark. -/
abbrev Bit := Bool

/-- The bit 0 (space). -/
abbrev b0 : Bit := false

/-- The bit 1 (mark). -/
abbrev b1 : Bit := true

/-- An output character code (R67: 8-bit ASCII). -/
abbrev Byte := BitVec 8

/-- A register value, a payload or a read word; bit 0 is the least significant (R8). -/
abbrev Word32 := BitVec 32

/-- A command word: `op[39:36] reg[35:32] data[31:0]` (R61). -/
abbrev CmdWord := BitVec 40

end Sys2Proof
end

