-- ==== Sys2Proof/Config.lean ====
section
/-!
DEFINITION. What the hardware fixes once and for all (spec/00_scope.md R5, R6) and the free values of the model: the
number type, the fixed lengths and thresholds, and the values the spec does not state.
-/

namespace Sys2Proof

/-- The number type `Num` of R6: an ordered field with exact arithmetic, reference choice ℚ (decision D5; the open
parameter NUMFMT of a finite-precision implementation has no effect on the reference model: log entry 1). -/
abbrev NumQ := ℚ

/-- The two detector channels of R80. -/
inductive Channel where
  | mark
  | space
deriving DecidableEq, Repr

namespace Config

/-- The reset value of `FRAME_SIZE` (R12: "default 128"). -/
abbrev defaultFrameSize : Word32 := 128

/-- The vote threshold of R5 and R113: the BaudotBit is 1 iff the voted sum is at least 3. -/
abbrev voteThreshold : Nat := 3

/-- The first and the last position that carries data, in a window (R65) and in a CharacterFrame (R66): 1 and 5. -/
abbrev firstDataPos : Nat := 1

/-- See `firstDataPos`. -/
abbrev lastDataPos : Nat := 5

/-- The length of a CharacterFrame (R5, R66). -/
abbrev chunkLength : Nat := 8

/-- The fallback character, a space (R5, R70; R67 gives the code 0x20). -/
abbrev fallbackChar : Byte := 0x20

/-- FREE VALUE (log entry 2): the number a channel multiplies by at the `t`-th input taken from the port while its
coefficient register is `none`. R185 refuses a `START` that would need it, so no run opened by the command port
reads it; no body is given, so nothing can be proved of it. -/
opaque unsetCoeff : Channel → Nat → NumQ

/-- FREE VALUE (log entry 2): the threshold the absolute mode compares with at the `t`-th input taken from the port
while `THRESH` is `none`. R185 refuses a `START` that would need it. -/
opaque unsetThresh : Nat → NumQ

end Config

end Sys2Proof
end

