-- ==== Sys2Proof/Syntax.lean ====
section
/-!
DEFINITION. The instructions of the block, one constructor per row of spec/opcode_table.json, and the stimuli that carry
them: the `CMD` word of the command port and the other formats of spec/30_encoding.md R60. An operand is a field the
row's format gives and the row's rule uses; a field a command ignores (R61) is no operand. A `CODE` row's
stop bits are `none` where the last chunk of a run ends before them (R60, R66).
-/

namespace Sys2Proof

/-- One constructor per row of spec/opcode_table.json, in the table's order. The `CMD` rows are what a host can present
on the command port; the other rows are the formats and operations inside the block (log entry 3). -/
inductive Instr where
  /-- `NOP`, R182. -/
  | nop
  /-- `CFG.FRAME_SIZE`, R183, register 0x0; the stored word is read as `sint32(data)` (R63). -/
  | cfgFrameSize (data : Word32)
  /-- `CFG.COEFF_MARK`, R183, register 0x1; the payload is `q16(data)` (R63). -/
  | cfgCoeffMark (data : Word32)
  /-- `CFG.COEFF_SPACE`, R183, register 0x2; the payload is `q16(data)` (R63). -/
  | cfgCoeffSpace (data : Word32)
  /-- `CFG.MODE`, R183, register 0x3; `ABS = data[0]`, `SRC = data[2:1]`, `data[31:3]` ignored (R63). -/
  | cfgMode (abs : Bit) (src : BitVec 2)
  /-- `CFG.THRESH`, R183, register 0x4; the payload is `q16(data)` (R63). -/
  | cfgThresh (data : Word32)
  /-- `CFG.RESERVED_5`, R183: a reserved index, refused in every state. -/
  | cfgReserved5
  /-- `CFG.RESERVED_6`, R183: a reserved index, refused in every state. -/
  | cfgReserved6
  /-- `CFG.RESERVED_7`, R183: a reserved index, refused in every state. -/
  | cfgReserved7
  /-- `CFG.STATUS`, R183: a read-only register, refused in every state. -/
  | cfgStatus
  /-- `CFG.SYMBOL_COUNT`, R183: a read-only register, refused in every state. -/
  | cfgSymbolCount
  /-- `CFG.BIT_COUNT`, R183: a read-only register, refused in every state. -/
  | cfgBitCount
  /-- `CFG.CHAR_COUNT`, R183: a read-only register, refused in every state. -/
  | cfgCharCount
  /-- `CFG.SYNC_ANCHOR`, R183: a read-only register, refused in every state. -/
  | cfgSyncAnchor
  /-- `CFG.RESERVED_D`, R183: a reserved index, refused in every state. -/
  | cfgReservedD
  /-- `CFG.RESERVED_E`, R183: a reserved index, refused in every state. -/
  | cfgReservedE
  /-- `CFG.RESERVED_F`, R183: a reserved index, refused in every state. -/
  | cfgReservedF
  /-- `START`, R185. -/
  | start
  /-- `SAMPLE`, R186: one sample, `q16(data)`. -/
  | sample (data : Word32)
  /-- `SYM`, R187: one Symbol, `data[0]`. -/
  | sym (b : Bit)
  /-- `BIT`, R188: one BaudotBit, `data[0]`. -/
  | bit (b : Bit)
  /-- `END`, R189. -/
  | endRun
  /-- `RD.FRAME_SIZE`, R184, R30. -/
  | rdFrameSize
  /-- `RD.COEFF_MARK`, R184, R30. -/
  | rdCoeffMark
  /-- `RD.COEFF_SPACE`, R184, R30. -/
  | rdCoeffSpace
  /-- `RD.MODE`, R184, R30. -/
  | rdMode
  /-- `RD.THRESH`, R184, R30. -/
  | rdThresh
  /-- `RD.RESERVED_5`, R184, R30: a reserved index reads 0. -/
  | rdReserved5
  /-- `RD.RESERVED_6`, R184, R30: a reserved index reads 0. -/
  | rdReserved6
  /-- `RD.RESERVED_7`, R184, R30: a reserved index reads 0. -/
  | rdReserved7
  /-- `RD.STATUS`, R184, R30. -/
  | rdStatus
  /-- `RD.SYMBOL_COUNT`, R184, R30. -/
  | rdSymbolCount
  /-- `RD.BIT_COUNT`, R184, R30. -/
  | rdBitCount
  /-- `RD.CHAR_COUNT`, R184, R30. -/
  | rdCharCount
  /-- `RD.SYNC_ANCHOR`, R184, R30. -/
  | rdSyncAnchor
  /-- `RD.RESERVED_D`, R184, R30: a reserved index reads 0. -/
  | rdReservedD
  /-- `RD.RESERVED_E`, R184, R30: a reserved index reads 0. -/
  | rdReservedE
  /-- `RD.RESERVED_F`, R184, R30: a reserved index reads 0. -/
  | rdReservedF
  /-- `RESERVED_OP_8`, R190: a reserved operation, refused in every state. -/
  | reservedOp8
  /-- `RESERVED_OP_9`, R190: a reserved operation, refused in every state. -/
  | reservedOp9
  /-- `RESERVED_OP_A`, R190: a reserved operation, refused in every state. -/
  | reservedOpA
  /-- `RESERVED_OP_B`, R190: a reserved operation, refused in every state. -/
  | reservedOpB
  /-- `RESERVED_OP_C`, R190: a reserved operation, refused in every state. -/
  | reservedOpC
  /-- `RESERVED_OP_D`, R190: a reserved operation, refused in every state. -/
  | reservedOpD
  /-- `RESERVED_OP_E`, R190: a reserved operation, refused in every state. -/
  | reservedOpE
  /-- `RST`, R181. -/
  | rst
  /-- `FBX.00`, R100: the ToneFlags (0, 0). -/
  | fbx00
  /-- `FBX.01`, R100: the ToneFlags (0, 1). -/
  | fbx01
  /-- `FBX.10`, R100: the ToneFlags (1, 0). -/
  | fbx10
  /-- `FBX.11`, R100: the ToneFlags (1, 1). -/
  | fbx11
  /-- `SYNC.SEEK_MARK`, R115. -/
  | syncSeekMark (b : Bit)
  /-- `SYNC.SEEK_SPACE`, R116. -/
  | syncSeekSpace (b : Bit)
  /-- `SYNC.EXTRACT.W7`, R117 over the seven symbols of a window, in time order (R65). -/
  | syncExtractW7 (w : List Bit)
  /-- `SYNC.EXTRACT.W8`, R117 over the eight symbols of a window, in time order (R65). -/
  | syncExtractW8 (w : List Bit)
  /-- `CODE.NUL`, R141: the frame with key `00000`. -/
  | codeNul (start : Bit) (stop1 stop2 : Option Bit)
  /-- `CODE.SPACE`, R142: the frame with key `00100`. -/
  | codeSpace (start : Bit) (stop1 stop2 : Option Bit)
  /-- `CODE.Q`, R143: the frame with key `10111`. -/
  | codeQ (start : Bit) (stop1 stop2 : Option Bit)
  /-- `CODE.W`, R144: the frame with key `10011`. -/
  | codeW (start : Bit) (stop1 stop2 : Option Bit)
  /-- `CODE.E`, R145: the frame with key `00001`. -/
  | codeE (start : Bit) (stop1 stop2 : Option Bit)
  /-- `CODE.R`, R146: the frame with key `01010`. -/
  | codeR (start : Bit) (stop1 stop2 : Option Bit)
  /-- `CODE.T`, R147: the frame with key `10000`. -/
  | codeT (start : Bit) (stop1 stop2 : Option Bit)
  /-- `CODE.Y`, R148: the frame with key `10101`. -/
  | codeY (start : Bit) (stop1 stop2 : Option Bit)
  /-- `CODE.U`, R149: the frame with key `00111`. -/
  | codeU (start : Bit) (stop1 stop2 : Option Bit)
  /-- `CODE.I`, R150: the frame with key `00110`. -/
  | codeI (start : Bit) (stop1 stop2 : Option Bit)
  /-- `CODE.O`, R151: the frame with key `11000`. -/
  | codeO (start : Bit) (stop1 stop2 : Option Bit)
  /-- `CODE.P`, R152: the frame with key `10110`. -/
  | codeP (start : Bit) (stop1 stop2 : Option Bit)
  /-- `CODE.A`, R153: the frame with key `00011`. -/
  | codeA (start : Bit) (stop1 stop2 : Option Bit)
  /-- `CODE.S`, R154: the frame with key `00101`. -/
  | codeS (start : Bit) (stop1 stop2 : Option Bit)
  /-- `CODE.D`, R155: the frame with key `01001`. -/
  | codeD (start : Bit) (stop1 stop2 : Option Bit)
  /-- `CODE.F`, R156: the frame with key `01101`. -/
  | codeF (start : Bit) (stop1 stop2 : Option Bit)
  /-- `CODE.G`, R157: the frame with key `11010`. -/
  | codeG (start : Bit) (stop1 stop2 : Option Bit)
  /-- `CODE.H`, R158: the frame with key `10100`. -/
  | codeH (start : Bit) (stop1 stop2 : Option Bit)
  /-- `CODE.J`, R159: the frame with key `01011`. -/
  | codeJ (start : Bit) (stop1 stop2 : Option Bit)
  /-- `CODE.K`, R160: the frame with key `01111`. -/
  | codeK (start : Bit) (stop1 stop2 : Option Bit)
  /-- `CODE.L`, R161: the frame with key `10010`. -/
  | codeL (start : Bit) (stop1 stop2 : Option Bit)
  /-- `CODE.Z`, R162: the frame with key `10001`. -/
  | codeZ (start : Bit) (stop1 stop2 : Option Bit)
  /-- `CODE.X`, R163: the frame with key `11101`. -/
  | codeX (start : Bit) (stop1 stop2 : Option Bit)
  /-- `CODE.C`, R164: the frame with key `01110`. -/
  | codeC (start : Bit) (stop1 stop2 : Option Bit)
  /-- `CODE.V`, R165: the frame with key `11110`. -/
  | codeV (start : Bit) (stop1 stop2 : Option Bit)
  /-- `CODE.B`, R166: the frame with key `11001`. -/
  | codeB (start : Bit) (stop1 stop2 : Option Bit)
  /-- `CODE.N`, R167: the frame with key `01100`. -/
  | codeN (start : Bit) (stop1 stop2 : Option Bit)
  /-- `CODE.M`, R168: the frame with key `11100`. -/
  | codeM (start : Bit) (stop1 stop2 : Option Bit)
  /-- `CODE.CR`, R169: the frame with key `01000`. -/
  | codeCr (start : Bit) (stop1 stop2 : Option Bit)
  /-- `CODE.LF`, R170: the frame with key `00010`. -/
  | codeLf (start : Bit) (stop1 stop2 : Option Bit)
  /-- `CODE.UNMAPPED_11011`, R171: the frame with key `11011`. -/
  | codeUnmapped11011 (start : Bit) (stop1 stop2 : Option Bit)
  /-- `CODE.UNMAPPED_11111`, R172: the frame with key `11111`. -/
  | codeUnmapped11111 (start : Bit) (stop1 stop2 : Option Bit)
  /-- `CODE.SHORT.1`, R173, R138: a final chunk of 1 BaudotBit(s), in time order. -/
  | codeShort1 (chunk : List Bit)
  /-- `CODE.SHORT.2`, R173, R138: a final chunk of 2 BaudotBit(s), in time order. -/
  | codeShort2 (chunk : List Bit)
  /-- `CODE.SHORT.3`, R173, R138: a final chunk of 3 BaudotBit(s), in time order. -/
  | codeShort3 (chunk : List Bit)
  /-- `CODE.SHORT.4`, R173, R138: a final chunk of 4 BaudotBit(s), in time order. -/
  | codeShort4 (chunk : List Bit)
  /-- `CODE.SHORT.5`, R173, R138: a final chunk of 5 BaudotBit(s), in time order. -/
  | codeShort5 (chunk : List Bit)
  /-- `GSTEP`, R85. -/
  | gstep (x : NumQ)
  /-- `FCLOSE`, R86. -/
  | fclose
  /-- `SYNC.STEP`, R114. -/
  | syncStep (b : Bit)
  /-- `SYNC.END`, R119. -/
  | syncEnd
  /-- `DEC.PUSH`, R136. -/
  | decPush (b : Bit)
  /-- `DEC.EMIT`, R137. -/
  | decEmit
  /-- `DEC.FLUSH`, R138. -/
  | decFlush
deriving DecidableEq, Repr

/-- The format of a row (R60); `internal` rows have no encoding of their own. -/
inductive Format where
  | cmd
  | flags
  | symbol
  | window
  | charFrame
  | internal
deriving DecidableEq, Repr

/-- What can stand at the block's input in the model. `cmd` is the hardware's command word (R61). The others present one
row of the opcode table that no command word encodes, so that each row can be run by itself (log entry 3). -/
inductive Stimulus where
  /-- A 40-bit command word, `op[39:36] reg[35:32] data[31:0]` (R61). -/
  | cmd (w : CmdWord)
  /-- A `FLAGS` pair: bit 1 markPresent, bit 0 spacePresent (R64). -/
  | flags (w : BitVec 2)
  /-- A `SYMBOL` given to one scan of Phase A: `seekingSpace` tells the second scan from the first (R115, R116). -/
  | symbol (seekingSpace : Bool) (b : Bit)
  /-- A `WINDOW`: its 7 or 8 symbols in time order (R65). -/
  | window (symbols : List Bit)
  /-- A `CHARFRAME`: its BaudotBits in time order, 8 of them, or 1 to 8 in the last chunk of a run (R60, R66). -/
  | charFrame (bits : List Bit)
  /-- A call of an operation that has no encoding of its own (the table's `INTERNAL` rows). -/
  | call (i : Instr)
deriving DecidableEq, Repr

/-- One input of the block: the reset input asserted (R230), or a stimulus. -/
inductive Input where
  /-- The reset input of the hardware is asserted and released (R230). -/
  | resetPin
  /-- A stimulus is presented. -/
  | item (x : Stimulus)
deriving DecidableEq, Repr

namespace Instr

/-- The format of the row an instruction stands for (the table's "format"). -/
def format : Instr → Format
  | .nop | .cfgFrameSize .. | .cfgCoeffMark .. | .cfgCoeffSpace .. | .cfgMode .. | .cfgThresh .. | .cfgReserved5
  | .cfgReserved6 | .cfgReserved7 | .cfgStatus | .cfgSymbolCount | .cfgBitCount | .cfgCharCount | .cfgSyncAnchor
  | .cfgReservedD | .cfgReservedE | .cfgReservedF | .start | .sample .. | .sym .. | .bit .. | .endRun
  | .rdFrameSize | .rdCoeffMark | .rdCoeffSpace | .rdMode | .rdThresh | .rdReserved5 | .rdReserved6 | .rdReserved7
  | .rdStatus | .rdSymbolCount | .rdBitCount | .rdCharCount | .rdSyncAnchor | .rdReservedD | .rdReservedE
  | .rdReservedF | .reservedOp8 | .reservedOp9 | .reservedOpA | .reservedOpB | .reservedOpC | .reservedOpD
  | .reservedOpE | .rst => .cmd
  | .fbx00 | .fbx01 | .fbx10 | .fbx11 => .flags
  | .syncSeekMark .. | .syncSeekSpace .. => .symbol
  | .syncExtractW7 .. | .syncExtractW8 .. => .window
  | .codeNul .. | .codeSpace .. | .codeQ .. | .codeW .. | .codeE .. | .codeR .. | .codeT .. | .codeY ..
  | .codeU .. | .codeI .. | .codeO .. | .codeP .. | .codeA .. | .codeS .. | .codeD .. | .codeF .. | .codeG ..
  | .codeH .. | .codeJ .. | .codeK .. | .codeL .. | .codeZ .. | .codeX .. | .codeC .. | .codeV .. | .codeB ..
  | .codeN .. | .codeM .. | .codeCr .. | .codeLf .. | .codeUnmapped11011 .. | .codeUnmapped11111 ..
  | .codeShort1 .. | .codeShort2 .. | .codeShort3 .. | .codeShort4 .. | .codeShort5 .. => .charFrame
  | .gstep .. | .fclose | .syncStep .. | .syncEnd | .decPush .. | .decEmit | .decFlush => .internal

/-- The instructions a host can present on the command port: the `CMD` rows (R62). -/
def isCommand (i : Instr) : Bool := i.format == .cmd

end Instr

end Sys2Proof
end

