-- ==== Sys2Proof/WellFormed.lean ====
section
/-!
DEFINITION. When an instruction is well formed: the operand sequences have the length their row's format gives them, and
a frame's stop bits are in order (spec/30_encoding.md R65, R66; spec/44_baudot_decoder.md R173). Every other operand is held by a type of its exact width.
-/

namespace Sys2Proof

namespace Instr

/-- The stop bits of a frame arrive in order: position 7 only after position 6 (R66). -/
def stopsInOrder (stop1 stop2 : Option Bit) : Bool := stop1.isSome || stop2.isNone

/-- The lengths the formats `WINDOW` and the short `CHARFRAME` fix, and the order of a frame's stop bits. -/
def wellFormed : Instr → Bool
  | .syncExtractW7 w => w.length == 7
  | .syncExtractW8 w => w.length == 8
  | .codeShort1 chunk => chunk.length == 1
  | .codeShort2 chunk => chunk.length == 2
  | .codeShort3 chunk => chunk.length == 3
  | .codeShort4 chunk => chunk.length == 4
  | .codeShort5 chunk => chunk.length == 5
  | .codeNul _ stop1 stop2 | .codeSpace _ stop1 stop2 | .codeQ _ stop1 stop2 | .codeW _ stop1 stop2
  | .codeE _ stop1 stop2 | .codeR _ stop1 stop2 | .codeT _ stop1 stop2 | .codeY _ stop1 stop2
  | .codeU _ stop1 stop2 | .codeI _ stop1 stop2 | .codeO _ stop1 stop2 | .codeP _ stop1 stop2
  | .codeA _ stop1 stop2 | .codeS _ stop1 stop2 | .codeD _ stop1 stop2 | .codeF _ stop1 stop2
  | .codeG _ stop1 stop2 | .codeH _ stop1 stop2 | .codeJ _ stop1 stop2 | .codeK _ stop1 stop2
  | .codeL _ stop1 stop2 | .codeZ _ stop1 stop2 | .codeX _ stop1 stop2 | .codeC _ stop1 stop2
  | .codeV _ stop1 stop2 | .codeB _ stop1 stop2 | .codeN _ stop1 stop2 | .codeM _ stop1 stop2
  | .codeCr _ stop1 stop2 | .codeLf _ stop1 stop2 | .codeUnmapped11011 _ stop1 stop2
  | .codeUnmapped11111 _ stop1 stop2 => stopsInOrder stop1 stop2
  | _ => true

end Instr

end Sys2Proof
end

