-- ==== Sys2Proof/Decode.lean ====
section
/-!
DEFINITION. Decoding a stimulus to an instruction, total and rejecting by name, and the encoder written from the same
encodings (spec/30_encoding.md R60 to R66; spec/opcode_table.json). Every 40-bit command word decodes (R180, R61).
-/

namespace Sys2Proof

/-- Why a stimulus is no instruction. No command word is ever rejected. -/
inductive DecodeError where
  /-- A window that has neither 7 nor 8 symbols (R65). -/
  | windowLength (length : Nat)
  /-- A group of BaudotBits that is no `CHARFRAME`: none at all, or more than 8 (R60, R66; log entry 11). -/
  | chunkLength (length : Nat)
  /-- A call of a row that has an encoding of its own: only the `INTERNAL` rows are called. -/
  | notInternal
deriving DecidableEq, Repr

namespace Decode

/-! ### The fields of a command word (R61) -/

/-- `op[39:36]`. -/
def opField (w : CmdWord) : BitVec 4 := w.extractLsb' 36 4

/-- `reg[35:32]`. -/
def regField (w : CmdWord) : BitVec 4 := w.extractLsb' 32 4

/-- `data[31:0]`. -/
def dataField (w : CmdWord) : Word32 := w.extractLsb' 0 32

/-- `data[0]` (R63: the payload of `SYM` and `BIT`, and `MODE.ABS`). -/
def dataBit (d : Word32) : Bit := d.getLsbD 0

/-- `data[2:1]` (R63: `MODE.SRC`). -/
def modeSrc (d : Word32) : BitVec 2 := d.extractLsb' 1 2

/-- The word with the given fields (R61). -/
def cmdWord (op reg : BitVec 4) (data : Word32) : CmdWord := op ++ reg ++ data

/-- A payload that carries one bit in `data[0]` and 0 above it (the canonical encoding of R61). -/
def bitData (b : Bit) : Word32 := 0#31 ++ BitVec.ofBool b

/-- The payload of `CFG MODE` (R63), 0 above bit 2. -/
def modeData (abs : Bit) (src : BitVec 2) : Word32 := 0#29 ++ src ++ BitVec.ofBool abs

/-! ### Command words -/

/-- `CFG` by register index (R183, R30). -/
def cfgInstr (reg : BitVec 4) (d : Word32) : Instr :=
  match reg.toNat with
  | 0x0 => .cfgFrameSize d
  | 0x1 => .cfgCoeffMark d
  | 0x2 => .cfgCoeffSpace d
  | 0x3 => .cfgMode (dataBit d) (modeSrc d)
  | 0x4 => .cfgThresh d
  | 0x5 => .cfgReserved5
  | 0x6 => .cfgReserved6
  | 0x7 => .cfgReserved7
  | 0x8 => .cfgStatus
  | 0x9 => .cfgSymbolCount
  | 0xA => .cfgBitCount
  | 0xB => .cfgCharCount
  | 0xC => .cfgSyncAnchor
  | 0xD => .cfgReservedD
  | 0xE => .cfgReservedE
  | _ => .cfgReservedF

/-- `RD` by register index (R184, R30). -/
def rdInstr (reg : BitVec 4) : Instr :=
  match reg.toNat with
  | 0x0 => .rdFrameSize
  | 0x1 => .rdCoeffMark
  | 0x2 => .rdCoeffSpace
  | 0x3 => .rdMode
  | 0x4 => .rdThresh
  | 0x5 => .rdReserved5
  | 0x6 => .rdReserved6
  | 0x7 => .rdReserved7
  | 0x8 => .rdStatus
  | 0x9 => .rdSymbolCount
  | 0xA => .rdBitCount
  | 0xB => .rdCharCount
  | 0xC => .rdSyncAnchor
  | 0xD => .rdReservedD
  | 0xE => .rdReservedE
  | _ => .rdReservedF

/-- A command word is decoded by `op` alone, but for `CFG` and `RD`, which also look at `reg` (R62). -/
def cmdInstr (w : CmdWord) : Instr :=
  match (opField w).toNat with
  | 0x0 => .nop
  | 0x1 => cfgInstr (regField w) (dataField w)
  | 0x2 => .start
  | 0x3 => .sample (dataField w)
  | 0x4 => .sym (dataBit (dataField w))
  | 0x5 => .bit (dataBit (dataField w))
  | 0x6 => .endRun
  | 0x7 => rdInstr (regField w)
  | 0x8 => .reservedOp8
  | 0x9 => .reservedOp9
  | 0xA => .reservedOpA
  | 0xB => .reservedOpB
  | 0xC => .reservedOpC
  | 0xD => .reservedOpD
  | 0xE => .reservedOpE
  | _ => .rst

/-! ### The other formats -/

/-- The `FLAGS` rows: bit 1 markPresent, bit 0 spacePresent (R64, R100). -/
def flagsInstr (w : BitVec 2) : Instr :=
  match w.getLsbD 1, w.getLsbD 0 with
  | false, false => .fbx00
  | false, true => .fbx01
  | true, false => .fbx10
  | true, true => .fbx11

/-- The BaudotBits of a frame with a complete key, in time order: start, key, and the stops that are present (R66). -/
def frameBits (start k0 k1 k2 k3 k4 : Bit) (stop1 stop2 : Option Bit) : List Bit :=
  start :: k0 :: k1 :: k2 :: k3 :: k4 :: (stop1.toList ++ stop2.toList)

/-- The `CHARFRAME` row of a five-bit key, `key[0]` first (R66, R141 to R172). -/
def codeInstr (k0 k1 k2 k3 k4 start : Bit) (stop1 stop2 : Option Bit) : Instr :=
  match k0, k1, k2, k3, k4 with
  | false, false, false, false, false => .codeNul start stop1 stop2
  | false, false, false, false, true => .codeE start stop1 stop2
  | false, false, false, true, false => .codeLf start stop1 stop2
  | false, false, false, true, true => .codeA start stop1 stop2
  | false, false, true, false, false => .codeSpace start stop1 stop2
  | false, false, true, false, true => .codeS start stop1 stop2
  | false, false, true, true, false => .codeI start stop1 stop2
  | false, false, true, true, true => .codeU start stop1 stop2
  | false, true, false, false, false => .codeCr start stop1 stop2
  | false, true, false, false, true => .codeD start stop1 stop2
  | false, true, false, true, false => .codeR start stop1 stop2
  | false, true, false, true, true => .codeJ start stop1 stop2
  | false, true, true, false, false => .codeN start stop1 stop2
  | false, true, true, false, true => .codeF start stop1 stop2
  | false, true, true, true, false => .codeC start stop1 stop2
  | false, true, true, true, true => .codeK start stop1 stop2
  | true, false, false, false, false => .codeT start stop1 stop2
  | true, false, false, false, true => .codeZ start stop1 stop2
  | true, false, false, true, false => .codeL start stop1 stop2
  | true, false, false, true, true => .codeW start stop1 stop2
  | true, false, true, false, false => .codeH start stop1 stop2
  | true, false, true, false, true => .codeY start stop1 stop2
  | true, false, true, true, false => .codeP start stop1 stop2
  | true, false, true, true, true => .codeQ start stop1 stop2
  | true, true, false, false, false => .codeO start stop1 stop2
  | true, true, false, false, true => .codeB start stop1 stop2
  | true, true, false, true, false => .codeG start stop1 stop2
  | true, true, false, true, true => .codeUnmapped11011 start stop1 stop2
  | true, true, true, false, false => .codeM start stop1 stop2
  | true, true, true, false, true => .codeX start stop1 stop2
  | true, true, true, true, false => .codeV start stop1 stop2
  | true, true, true, true, true => .codeUnmapped11111 start stop1 stop2

/-- The `CHARFRAME` rows: 8 BaudotBits, or 1 to 8 in the last chunk of a run (R60, R66). From 6 on the key is complete and
names the row (R138: "looked up normally, although one or both stop bits never arrived"); 1 to 5 are the short chunks of
R173. -/
def frameInstr (bits : List Bit) : Except DecodeError Instr :=
  match bits with
  | [start, k0, k1, k2, k3, k4] => .ok (codeInstr k0 k1 k2 k3 k4 start none none)
  | [start, k0, k1, k2, k3, k4, stop1] => .ok (codeInstr k0 k1 k2 k3 k4 start (some stop1) none)
  | [start, k0, k1, k2, k3, k4, stop1, stop2] => .ok (codeInstr k0 k1 k2 k3 k4 start (some stop1) (some stop2))
  | _ =>
    match bits.length with
    | 1 => .ok (.codeShort1 bits)
    | 2 => .ok (.codeShort2 bits)
    | 3 => .ok (.codeShort3 bits)
    | 4 => .ok (.codeShort4 bits)
    | 5 => .ok (.codeShort5 bits)
    | n => .error (.chunkLength n)

/-- The `WINDOW` rows, by length (R65, R117). -/
def windowInstr (symbols : List Bit) : Except DecodeError Instr :=
  match symbols.length with
  | 7 => .ok (.syncExtractW7 symbols)
  | 8 => .ok (.syncExtractW8 symbols)
  | n => .error (.windowLength n)

end Decode

open Decode

/-- The instruction a stimulus stands for. -/
def decode : Stimulus → Except DecodeError Instr
  | .cmd w => .ok (cmdInstr w)
  | .flags w => .ok (flagsInstr w)
  | .symbol false b => .ok (.syncSeekMark b)
  | .symbol true b => .ok (.syncSeekSpace b)
  | .window symbols => windowInstr symbols
  | .charFrame bits => frameInstr bits
  | .call i => if i.format = .internal then .ok i else .error .notInternal

/-- The stimulus of an instruction; for a command, the canonical word of R61, 0 in every unused field. -/
def encode : Instr → Stimulus
  | .nop => .cmd (cmdWord 0x0 0x0 0)
  | .cfgFrameSize data => .cmd (cmdWord 0x1 0x0 data)
  | .cfgCoeffMark data => .cmd (cmdWord 0x1 0x1 data)
  | .cfgCoeffSpace data => .cmd (cmdWord 0x1 0x2 data)
  | .cfgMode abs src => .cmd (cmdWord 0x1 0x3 (modeData abs src))
  | .cfgThresh data => .cmd (cmdWord 0x1 0x4 data)
  | .cfgReserved5 => .cmd (cmdWord 0x1 0x5 0)
  | .cfgReserved6 => .cmd (cmdWord 0x1 0x6 0)
  | .cfgReserved7 => .cmd (cmdWord 0x1 0x7 0)
  | .cfgStatus => .cmd (cmdWord 0x1 0x8 0)
  | .cfgSymbolCount => .cmd (cmdWord 0x1 0x9 0)
  | .cfgBitCount => .cmd (cmdWord 0x1 0xA 0)
  | .cfgCharCount => .cmd (cmdWord 0x1 0xB 0)
  | .cfgSyncAnchor => .cmd (cmdWord 0x1 0xC 0)
  | .cfgReservedD => .cmd (cmdWord 0x1 0xD 0)
  | .cfgReservedE => .cmd (cmdWord 0x1 0xE 0)
  | .cfgReservedF => .cmd (cmdWord 0x1 0xF 0)
  | .start => .cmd (cmdWord 0x2 0x0 0)
  | .sample data => .cmd (cmdWord 0x3 0x0 data)
  | .sym b => .cmd (cmdWord 0x4 0x0 (bitData b))
  | .bit b => .cmd (cmdWord 0x5 0x0 (bitData b))
  | .endRun => .cmd (cmdWord 0x6 0x0 0)
  | .rdFrameSize => .cmd (cmdWord 0x7 0x0 0)
  | .rdCoeffMark => .cmd (cmdWord 0x7 0x1 0)
  | .rdCoeffSpace => .cmd (cmdWord 0x7 0x2 0)
  | .rdMode => .cmd (cmdWord 0x7 0x3 0)
  | .rdThresh => .cmd (cmdWord 0x7 0x4 0)
  | .rdReserved5 => .cmd (cmdWord 0x7 0x5 0)
  | .rdReserved6 => .cmd (cmdWord 0x7 0x6 0)
  | .rdReserved7 => .cmd (cmdWord 0x7 0x7 0)
  | .rdStatus => .cmd (cmdWord 0x7 0x8 0)
  | .rdSymbolCount => .cmd (cmdWord 0x7 0x9 0)
  | .rdBitCount => .cmd (cmdWord 0x7 0xA 0)
  | .rdCharCount => .cmd (cmdWord 0x7 0xB 0)
  | .rdSyncAnchor => .cmd (cmdWord 0x7 0xC 0)
  | .rdReservedD => .cmd (cmdWord 0x7 0xD 0)
  | .rdReservedE => .cmd (cmdWord 0x7 0xE 0)
  | .rdReservedF => .cmd (cmdWord 0x7 0xF 0)
  | .reservedOp8 => .cmd (cmdWord 0x8 0x0 0)
  | .reservedOp9 => .cmd (cmdWord 0x9 0x0 0)
  | .reservedOpA => .cmd (cmdWord 0xA 0x0 0)
  | .reservedOpB => .cmd (cmdWord 0xB 0x0 0)
  | .reservedOpC => .cmd (cmdWord 0xC 0x0 0)
  | .reservedOpD => .cmd (cmdWord 0xD 0x0 0)
  | .reservedOpE => .cmd (cmdWord 0xE 0x0 0)
  | .rst => .cmd (cmdWord 0xF 0x0 0)
  | .fbx00 => .flags 0b00
  | .fbx01 => .flags 0b01
  | .fbx10 => .flags 0b10
  | .fbx11 => .flags 0b11
  | .syncSeekMark b => .symbol false b
  | .syncSeekSpace b => .symbol true b
  | .syncExtractW7 w => .window w
  | .syncExtractW8 w => .window w
  | .codeNul start stop1 stop2 => .charFrame (frameBits start b0 b0 b0 b0 b0 stop1 stop2)
  | .codeSpace start stop1 stop2 => .charFrame (frameBits start b0 b0 b1 b0 b0 stop1 stop2)
  | .codeQ start stop1 stop2 => .charFrame (frameBits start b1 b0 b1 b1 b1 stop1 stop2)
  | .codeW start stop1 stop2 => .charFrame (frameBits start b1 b0 b0 b1 b1 stop1 stop2)
  | .codeE start stop1 stop2 => .charFrame (frameBits start b0 b0 b0 b0 b1 stop1 stop2)
  | .codeR start stop1 stop2 => .charFrame (frameBits start b0 b1 b0 b1 b0 stop1 stop2)
  | .codeT start stop1 stop2 => .charFrame (frameBits start b1 b0 b0 b0 b0 stop1 stop2)
  | .codeY start stop1 stop2 => .charFrame (frameBits start b1 b0 b1 b0 b1 stop1 stop2)
  | .codeU start stop1 stop2 => .charFrame (frameBits start b0 b0 b1 b1 b1 stop1 stop2)
  | .codeI start stop1 stop2 => .charFrame (frameBits start b0 b0 b1 b1 b0 stop1 stop2)
  | .codeO start stop1 stop2 => .charFrame (frameBits start b1 b1 b0 b0 b0 stop1 stop2)
  | .codeP start stop1 stop2 => .charFrame (frameBits start b1 b0 b1 b1 b0 stop1 stop2)
  | .codeA start stop1 stop2 => .charFrame (frameBits start b0 b0 b0 b1 b1 stop1 stop2)
  | .codeS start stop1 stop2 => .charFrame (frameBits start b0 b0 b1 b0 b1 stop1 stop2)
  | .codeD start stop1 stop2 => .charFrame (frameBits start b0 b1 b0 b0 b1 stop1 stop2)
  | .codeF start stop1 stop2 => .charFrame (frameBits start b0 b1 b1 b0 b1 stop1 stop2)
  | .codeG start stop1 stop2 => .charFrame (frameBits start b1 b1 b0 b1 b0 stop1 stop2)
  | .codeH start stop1 stop2 => .charFrame (frameBits start b1 b0 b1 b0 b0 stop1 stop2)
  | .codeJ start stop1 stop2 => .charFrame (frameBits start b0 b1 b0 b1 b1 stop1 stop2)
  | .codeK start stop1 stop2 => .charFrame (frameBits start b0 b1 b1 b1 b1 stop1 stop2)
  | .codeL start stop1 stop2 => .charFrame (frameBits start b1 b0 b0 b1 b0 stop1 stop2)
  | .codeZ start stop1 stop2 => .charFrame (frameBits start b1 b0 b0 b0 b1 stop1 stop2)
  | .codeX start stop1 stop2 => .charFrame (frameBits start b1 b1 b1 b0 b1 stop1 stop2)
  | .codeC start stop1 stop2 => .charFrame (frameBits start b0 b1 b1 b1 b0 stop1 stop2)
  | .codeV start stop1 stop2 => .charFrame (frameBits start b1 b1 b1 b1 b0 stop1 stop2)
  | .codeB start stop1 stop2 => .charFrame (frameBits start b1 b1 b0 b0 b1 stop1 stop2)
  | .codeN start stop1 stop2 => .charFrame (frameBits start b0 b1 b1 b0 b0 stop1 stop2)
  | .codeM start stop1 stop2 => .charFrame (frameBits start b1 b1 b1 b0 b0 stop1 stop2)
  | .codeCr start stop1 stop2 => .charFrame (frameBits start b0 b1 b0 b0 b0 stop1 stop2)
  | .codeLf start stop1 stop2 => .charFrame (frameBits start b0 b0 b0 b1 b0 stop1 stop2)
  | .codeUnmapped11011 start stop1 stop2 => .charFrame (frameBits start b1 b1 b0 b1 b1 stop1 stop2)
  | .codeUnmapped11111 start stop1 stop2 => .charFrame (frameBits start b1 b1 b1 b1 b1 stop1 stop2)
  | .codeShort1 chunk => .charFrame chunk
  | .codeShort2 chunk => .charFrame chunk
  | .codeShort3 chunk => .charFrame chunk
  | .codeShort4 chunk => .charFrame chunk
  | .codeShort5 chunk => .charFrame chunk
  | .gstep x => .call (.gstep x)
  | .fclose => .call (.fclose)
  | .syncStep b => .call (.syncStep b)
  | .syncEnd => .call (.syncEnd)
  | .decPush b => .call (.decPush b)
  | .decEmit => .call (.decEmit)
  | .decFlush => .call (.decFlush)

/-! ### The opcode table's numbering -/

/-- The stimulus whose bits are `w` in the table's numbering. A row of 8 bits is a `CHARFRAME`, written as a number whose
bit 7 is the first position (log entry 12); any other width up to 40 is a command word, with 0 above `nbits`. A row of no
bits has no encoding. -/
def tableStimulus (nbits w : Nat) : Option Stimulus :=
  if nbits = 8 then
    some (.charFrame [w.testBit 7, w.testBit 6, w.testBit 5, w.testBit 4, w.testBit 3, w.testBit 2, w.testBit 1,
      w.testBit 0])
  else if 0 < nbits ∧ nbits ≤ 40 then some (.cmd (BitVec.ofNat 40 (w % 2 ^ nbits)))
  else none

/-- The instruction the decoder reads from the table word `w` of `nbits` bits. -/
def decodeTableWord (nbits w : Nat) : Option Instr :=
  match tableStimulus nbits w with
  | some x => (decode x).toOption
  | none => none

end Sys2Proof
end

