-- ==== Sys2Proof/Machine/State.lean ====
section
/-!
DEFINITION. The state of `rtty_core`: the tuple of spec/10_state.md R10, group by group as its table has them, and the
model's own environment group. Plain data; reset values are those of R32.
-/

namespace Sys2Proof.Machine

/-- `MODE.SRC` (R14). The reserved value 3 is never stored: a `CFG` that would write it is refused whole (R183). -/
inductive Source where
  | samples
  | symbols
  | bits
deriving DecidableEq, Repr

/-- The top-level state `run` (R16). -/
inductive RunState where
  | idle
  | run
  | done
  | err
deriving DecidableEq, Repr

/-- The error cause `err` (R17, R203). The value 3 is never produced. -/
inductive ErrCause where
  | none
  | invalidFrameSize
  | syncNotFound
deriving DecidableEq, Repr

/-- The synchronizer's phase `ph` (R23). -/
inductive Phase where
  | seekMark
  | seekSpace
  | extract
deriving DecidableEq, Repr

/-- WindowState `W` (R24): the open window has 7 or 8 symbols. -/
inductive WindowLen where
  | seven
  | eight
deriving DecidableEq, Repr

/-- The two Goertzel delay registers of one channel (R21). -/
structure Delay where
  s1 : NumQ
  s2 : NumQ
deriving DecidableEq, Repr

/-- Group "config" of R10. A coefficient or threshold is held as the Q16.16 word last written (log entry 8). -/
structure Cfg where
  frameSize : Word32
  coeffMark : Option Word32
  coeffSpace : Option Word32
  abs : Bit
  src : Source
  thresh : Option Word32
deriving DecidableEq, Repr

/-- Group "control" of R10. -/
structure Control where
  run : RunState
  err : ErrCause
  rej : Bit
  rdata : Word32
deriving DecidableEq, Repr

/-- Group "tone_detector" of R10. -/
structure Tone where
  n : Nat
  seen : Bit
  mark : Delay
  space : Delay
  markPresent : Bit
  spacePresent : Bit
deriving DecidableEq, Repr

/-- Group "bit_synchronizer" of R10. -/
structure Sync where
  ph : Phase
  pos : Nat
  w : WindowLen
  acc : Nat
  anchor : Nat
deriving DecidableEq, Repr

/-- Group "baudot_decoder" of R10. -/
structure Dec where
  k : Nat
  key : List Bit
deriving DecidableEq, Repr

/-- Group "counters" of R10: unbounded naturals (R27). -/
structure Counters where
  nsym : Nat
  nbit : Nat
  nchar : Nat
deriving DecidableEq, Repr

/-- Group "streams" of R10 (R28): index 0 is the earliest element. -/
structure Streams where
  out : List Byte
  tapSym : List Bit
  tapBit : List Bit
deriving DecidableEq, Repr

/-- The MODEL's own group, not the spec's: the inputs waiting at the port, oldest first (log entry 4); what an `FBX` row
run by itself returned (log entry 5); how many inputs have been taken, the argument of the free values (log entry 2). -/
structure Env where
  pending : List Input
  fbxOut : Option Bit
  free : Nat
deriving DecidableEq, Repr

/-- The state of the machine: R10, and the model's `env`. -/
structure State where
  cfg : Cfg
  ctl : Control
  tone : Tone
  sync : Sync
  dec : Dec
  cnt : Counters
  str : Streams
  env : Env
deriving DecidableEq, Repr

/-- Why a step stops with a fault: never. The step function is total (R180) and the two error kinds of R200, R201 are
states of the machine (`run = ERR`), so this type has no constructor. -/
inductive Fault where
deriving DecidableEq, Repr

/-- Why a step refuses. The spec's own `refuse` (R210) is NOT this: it is a next state with `rej = 1`. -/
inductive Refusal where
  /-- An arm of `exec` that has no meaning yet; no arm of this model answers it. Safe. -/
  | notModelled (mnemonic : String)
  /-- `step` answers it for a stimulus in no format of the spec (a window of 9 symbols, say); no command word is one
  (R180). Safe: no hardware input is refused. -/
  | malformed (reason : DecodeError)
deriving DecidableEq, Repr

namespace Delay

/-- Both delay registers 0 (R21: "Reset 0"). -/
def zero : Delay := { s1 := 0, s2 := 0 }

end Delay

/-! ### Reset values, group by group (R32) -/

/-- R32: `FRAME_SIZE` 128, the three optional registers `none`, relative mode, sample input. -/
def Cfg.reset : Cfg :=
  { frameSize := Config.defaultFrameSize, coeffMark := none, coeffSpace := none, abs := b0, src := .samples,
    thresh := none }

/-- R32: `IDLE`, `NONE`, 0, 0. -/
def Control.reset : Control := { run := .idle, err := .none, rej := b0, rdata := 0 }

/-- R32: all zero. -/
def Tone.reset : Tone :=
  { n := 0, seen := b0, mark := .zero, space := .zero, markPresent := b0, spacePresent := b0 }

/-- R32: `SEEK_MARK`, position 0, `W = 7`, no votes, no anchor. -/
def Sync.reset : Sync := { ph := .seekMark, pos := 0, w := .seven, acc := 0, anchor := 0 }

/-- R32: no chunk open. -/
def Dec.reset : Dec := { k := 0, key := [] }

/-- R32: all zero. -/
def Counters.reset : Counters := { nsym := 0, nbit := 0, nchar := 0 }

/-- R32: all empty. -/
def Streams.reset : Streams := { out := [], tapSym := [], tapBit := [] }

/-- DESIGN CHOICE (log entries 2, 4, 5): nothing waits at the port, no `FBX` result, no input taken. Unsafe as a reset
value: the spec gives none, the group being the model's own. -/
def Env.reset : Env := { pending := [], fbxOut := none, free := 0 }

/-- The machine right after reset (R32, R231). -/
def State.reset : State :=
  { cfg := .reset, ctl := .reset, tone := .reset, sync := .reset, dec := .reset, cnt := .reset, str := .reset,
    env := .reset }

end Sys2Proof.Machine
end

