-- ==== Sys2Proof/Machine/Operands.lean ====
section
/-!
DEFINITION. How operands and registers are read: the payload readings of spec/30_encoding.md R63, the register read
values of spec/10_state.md R30, the codes of R14, R16, R17, R23, the slices of spec/00_scope.md R7 and the level outputs
of spec/60_exceptions.md R211.
-/

namespace Sys2Proof.Machine

/-! ### Payloads (R8, R63) -/

/-- `sint32(w)`: two's complement (R8). -/
def sint32 (w : Word32) : Int := w.toInt

/-- `q16(w) = sint32(w) / 65536` (R8). -/
def q16 (w : Word32) : NumQ := (sint32 w : NumQ) / 65536

/-- `MODE.SRC` from its two bits; 3 is reserved (R14). -/
def sourceOf (b : BitVec 2) : Option Source :=
  match b.toNat with
  | 0 => some .samples
  | 1 => some .symbols
  | 2 => some .bits
  | _ => none

/-! ### Sequences (R7) -/

/-- `s[a:b]`: the elements of indices `a ≤ i < min(b, len(s))`; empty when there are none (R7). -/
def slice {α : Type} (s : List α) (a b : Nat) : List α := (s.take b).drop a

/-- A `Bit` as a number (R7). -/
def bitNat (b : Bit) : Nat := if b then 1 else 0

/-! ### Codes -/

/-- The code of `MODE.SRC` (R14). -/
def srcCode : Source → BitVec 2
  | .samples => 0
  | .symbols => 1
  | .bits => 2

/-- The code of `run` (R16). -/
def runCode : RunState → BitVec 2
  | .idle => 0
  | .run => 1
  | .done => 2
  | .err => 3

/-- The code of `err` (R17, R203). -/
def errCode : ErrCause → BitVec 2
  | .none => 0
  | .invalidFrameSize => 1
  | .syncNotFound => 2

/-- `W` as a number (R24). -/
def windowLength : WindowLen → Nat
  | .seven => 7
  | .eight => 8

/-- `15 − W`: 7 becomes 8 and 8 becomes 7 (R117, R118, R123). -/
def flipWindow : WindowLen → WindowLen
  | .seven => .eight
  | .eight => .seven

/-! ### The numbers in the configuration registers -/

/-- The coefficient register of a channel (R80: `c[M] = COEFF_MARK`, `c[S] = COEFF_SPACE`). -/
def coeffWord (ch : Channel) (c : Cfg) : Option Word32 :=
  match ch with
  | .mark => c.coeffMark
  | .space => c.coeffSpace

/-- `c[ch]` (R80): the number in the channel's coefficient register; while the register is `none`, a free value (log
entry 2). -/
def coeff (ch : Channel) (s : State) : NumQ :=
  match coeffWord ch s.cfg with
  | some w => q16 w
  | none => Config.unsetCoeff ch s.env.free

/-- `T` (R15, R84): the number in `THRESH`; while it is `none`, a free value (log entry 2). -/
def threshold (s : State) : NumQ :=
  match s.cfg.thresh with
  | some w => q16 w
  | none => Config.unsetThresh s.env.free

/-- `FRAME_SIZE` as an `Int` (R12). -/
def frameSize (s : State) : Int := sint32 s.cfg.frameSize

/-! ### What `RD` reads (R30) -/

/-- "the Q16.16 word last written; 0 if `none`" (R30). -/
def optionWord (r : Option Word32) : Word32 := r.getD 0

/-- The read value of `MODE`: bit 0 `ABS`, bits 2:1 `SRC`, the rest zero (R30). -/
def modeWord (c : Cfg) : Word32 := 0#29 ++ srcCode c.src ++ BitVec.ofBool c.abs

/-- A counter read: the value modulo 2^32 (R27, R30). -/
def countWord (n : Nat) : Word32 := BitVec.ofNat 32 n

/-- The `STATUS` word (R31), field by field from bit 31 down. -/
def statusWord (s : State) : Word32 :=
  0#13 ++ BitVec.ofBool (s.sync.ph == .seekSpace) ++ BitVec.ofNat 3 s.sync.pos ++ BitVec.ofNat 3 s.dec.k
    ++ BitVec.ofBool s.tone.spacePresent ++ BitVec.ofBool s.tone.markPresent
    ++ BitVec.ofBool s.cfg.thresh.isSome ++ BitVec.ofBool s.cfg.coeffSpace.isSome
    ++ BitVec.ofBool s.cfg.coeffMark.isSome ++ BitVec.ofBool (s.sync.w == .eight)
    ++ BitVec.ofBool (s.sync.ph == .extract) ++ BitVec.ofBool s.ctl.rej ++ errCode s.ctl.err ++ runCode s.ctl.run

/-! ### Level outputs (R211) -/

/-- `done = (run = DONE)`. -/
def doneOutput (s : State) : Bit := s.ctl.run == .done

/-- `error = (run = ERR)`. -/
def errorOutput (s : State) : Bit := s.ctl.run == .err

end Sys2Proof.Machine
end

