-- ==== Sys2Proof/Machine/CodeTable.lean ====
section
/-!
DEFINITION. The constant CodeTable and the character of a key (spec/44_baudot_decoder.md R132 to R134, R141 to R173), with
the optional packing of the key in a register (spec/30_encoding.md R66).
-/

namespace Sys2Proof.Machine

/-- The 30 entries of R141 to R170, in the spec's order: the key, position 1 first, and the byte. -/
def codeEntries : List (List Bit × Byte) :=
  [([b0, b0, b0, b0, b0], 0x00), ([b0, b0, b1, b0, b0], 0x20), ([b1, b0, b1, b1, b1], 0x51),
   ([b1, b0, b0, b1, b1], 0x57), ([b0, b0, b0, b0, b1], 0x45), ([b0, b1, b0, b1, b0], 0x52),
   ([b1, b0, b0, b0, b0], 0x54), ([b1, b0, b1, b0, b1], 0x59), ([b0, b0, b1, b1, b1], 0x55),
   ([b0, b0, b1, b1, b0], 0x49), ([b1, b1, b0, b0, b0], 0x4F), ([b1, b0, b1, b1, b0], 0x50),
   ([b0, b0, b0, b1, b1], 0x41), ([b0, b0, b1, b0, b1], 0x53), ([b0, b1, b0, b0, b1], 0x44),
   ([b0, b1, b1, b0, b1], 0x46), ([b1, b1, b0, b1, b0], 0x47), ([b1, b0, b1, b0, b0], 0x48),
   ([b0, b1, b0, b1, b1], 0x4A), ([b0, b1, b1, b1, b1], 0x4B), ([b1, b0, b0, b1, b0], 0x4C),
   ([b1, b0, b0, b0, b1], 0x5A), ([b1, b1, b1, b0, b1], 0x58), ([b0, b1, b1, b1, b0], 0x43),
   ([b1, b1, b1, b1, b0], 0x56), ([b1, b1, b0, b0, b1], 0x42), ([b0, b1, b1, b0, b0], 0x4E),
   ([b1, b1, b1, b0, b0], 0x4D), ([b0, b1, b0, b0, b0], 0x0D), ([b0, b0, b0, b1, b0], 0x0A)]

/-- `CodeTable(key)` (R133): `none` for every bit string that is not one of the 30 keys, whatever its length. -/
def codeTable (key : List Bit) : Option Byte := codeEntries.lookup key

/-- The character a key is decoded to: the table's, or the fallback space (R134, R137). -/
def charOfKey (key : List Bit) : Byte := (codeTable key).getD Config.fallbackChar

/-- `Key(ch) = ch[1:6]` (R132). -/
def chunkKey (ch : List Bit) : List Bit := slice ch Config.firstDataPos (Config.lastDataPos + 1)

/-- `Char(ch)` (R134). -/
def chunkChar (ch : List Bit) : Byte := charOfKey (chunkKey ch)

/-- One arriving data bit in the optional key register: `keyreg ← (keyreg << 1 | b) & 0x1F` (R66). -/
def keyRegShift (r : BitVec 5) (b : Bit) : BitVec 5 := (r <<< 1) ||| (BitVec.ofBool b).setWidth 5

/-- The view of `key` as the optional register `keyreg[4:0]` (R66, D40): `key` is the state, this is derived from it. -/
def keyReg (key : List Bit) : BitVec 5 := key.foldl keyRegShift 0

end Sys2Proof.Machine
end

