-- ==== Sys2Proof/Machine/Flags.lean ====
section
/-!
DEFINITION. The condition flags of the block, the ToneFlags (spec/10_state.md R22): the Goertzel step and power they are
computed from (spec/41_tone_detector.md R82, R85, R86), the decision (R84), and the Symbol they stand for
(spec/42_frame_bit_extractor.md R100).
-/

namespace Sys2Proof.Machine

/-- One step of the recurrence of a channel: `s0 = x + c·s1 − s2`, then `s2 ← s1`, `s1 ← s0` (R82, R85). -/
def channelStep (c : NumQ) (d : Delay) (x : NumQ) : Delay := { s1 := x + c * d.s1 - d.s2, s2 := d.s1 }

/-- `s1² + s2² − c·s1·s2` (R82, R86). -/
def delayPower (c : NumQ) (d : Delay) : NumQ := d.s1 * d.s1 + d.s2 * d.s2 - c * d.s1 * d.s2

/-- `Flags(pm, ps)` (R84): the pair (markPresent, spacePresent). Relative mode, `abs = 0`: mark iff `pm > ps`, a tie is a
space. Absolute mode: each power against the threshold, strictly and independently. -/
def toneFlags (abs : Bit) (t pm ps : NumQ) : Bit × Bit :=
  if abs then (decide (t < pm), decide (t < ps))
  else (decide (ps < pm), !decide (ps < pm))

/-- `FBX(m, s) = m` (R100); the space flag has no effect on the Symbol. -/
def fbx (m _sp : Bit) : Bit := m

end Sys2Proof.Machine
end

