-- ==== Sys2Proof/Machine/Ops.lean ====
section
/-!
DEFINITION. The named operations of the block over its state: taking an error and refusing (spec/60_exceptions.md R205,
R210), the emit primitives (spec/00_scope.md R9), the operations of the four parts (spec/41_tone_detector.md R85, R86;
spec/43_bit_synchronizer.md R114 to R119; spec/44_baudot_decoder.md R136 to R138), the clearing of a run (spec/10_state.md
R33), reset (R230) and the taking of an input.
-/

namespace Sys2Proof.Machine

/-- What a meaning answers. -/
abbrev Result := Host.Outcome State Fault Refusal

/-! ### Taking an error, refusing, and reading out -/

/-- `raise E` (R205), the whole of error entry: `run ← ERR`, `err ← code(E)`; nothing is saved and nothing else changes.
The command ends with it. There is no return from it: `START` and `RST` leave `ERR` (R207). -/
def raise (e : ErrCause) (s : State) : State := { s with ctl := { s.ctl with run := .err, err := e } }

/-- `refuse` (R210): `rej ← 1` and nothing else. -/
def refuse (s : State) : State := { s with ctl := { s.ctl with rej := b1 } }

/-- `rdata ← v` (R184, R19). -/
def setRdata (v : Word32) (s : State) : State := { s with ctl := { s.ctl with rdata := v } }

/-- `run ← r` (R185 step 6, R189 step 5). -/
def setRun (r : RunState) (s : State) : State := { s with ctl := { s.ctl with run := r } }

/-- An accepted write of the configuration (R183): only the configuration changes. -/
def setCfg (c : Cfg) (s : State) : State := { s with cfg := c }

/-- A `CFG` to register `f` (R183): refused in `RUN`, else written. -/
def cfgWrite (f : Cfg → Cfg) (s : State) : State := if s.ctl.run = .run then refuse s else setCfg (f s.cfg) s

/-! ### baudot_decoder -/

/-- `emit_char(b)` (R9): `out ← out ++ [b]`, `nchar ← nchar + 1`. -/
def emitChar (b : Byte) (s : State) : State :=
  { s with str := { s.str with out := s.str.out ++ [b] }, cnt := { s.cnt with nchar := s.cnt.nchar + 1 } }

/-- The open chunk is closed: `k ← 0`, `key ← []` (R137 step 3, R138). -/
def clearChunk (s : State) : State := { s with dec := .reset }

/-- `DEC.EMIT()` (R137): the character of `key`, or a space, is emitted and the chunk is closed. -/
def decEmit (s : State) : State := clearChunk (emitChar (charOfKey s.dec.key) s)

/-- Positions 1 to 5 carry data, in a chunk and in a window (R65, R66). -/
def isDataPos (p : Nat) : Bool := Config.firstDataPos ≤ p && p ≤ Config.lastDataPos

/-- Steps 1 and 2 of `DEC.PUSH` (R136): the bit is kept at positions 1 to 5; `k` goes up by 1. -/
def pushBit (b : Bit) (s : State) : State :=
  { s with dec := { k := s.dec.k + 1, key := if isDataPos s.dec.k then s.dec.key ++ [b] else s.dec.key } }

/-- `DEC.PUSH(b)` (R136): at `k = 8` the chunk is emitted. -/
def decPush (b : Bit) (s : State) : State :=
  if (pushBit b s).dec.k = Config.chunkLength then decEmit (pushBit b s) else pushBit b s

/-- `DEC.FLUSH()` (R138): the short final chunk, if one is open. -/
def decFlush (s : State) : State := if 1 ≤ s.dec.k then decEmit s else s

/-- The chunk `ch` is closed whole: its character is emitted (R134, R137, R138) and no chunk stays open. This is what a
`CHARFRAME` row does: the frame is the operand (log entry 6). -/
def closeChunk (ch : List Bit) (s : State) : State := clearChunk (emitChar (chunkChar ch) s)

/-! ### bit_synchronizer -/

/-- `emit_bit(b)` (R9): `tap_bit ← tap_bit ++ [b]`, `nbit ← nbit + 1`, then `DEC.PUSH(b)`. -/
def emitBit (b : Bit) (s : State) : State :=
  decPush b
    { s with str := { s.str with tapBit := s.str.tapBit ++ [b] }, cnt := { s.cnt with nbit := s.cnt.nbit + 1 } }

/-- `SYNC.SEEK_MARK(b)` (R115). -/
def syncSeekMark (b : Bit) (s : State) : State :=
  if b then { s with sync := { s.sync with ph := .seekSpace } } else s

/-- `SYNC.SEEK_SPACE(b)` (R116): the first space fixes the anchor, with the `nsym` that already counts it. -/
def syncSeekSpace (b : Bit) (s : State) : State :=
  if b then s else { s with sync := { s.sync with ph := .extract, anchor := s.cnt.nsym } }

/-- `acc` after a symbol at the open window's current position (R117 step 1). -/
def voteSum (b : Bit) (y : Sync) : Nat := if isDataPos y.pos then y.acc + bitNat b else y.acc

/-- `SYNC.EXTRACT(b)` (R117): one symbol of a window. At the window's last symbol the vote is taken, the window is closed,
`W` flips, and then the BaudotBit is emitted. -/
def syncExtract (b : Bit) (s : State) : State :=
  if s.sync.pos + 1 = windowLength s.sync.w then
    emitBit (decide (Config.voteThreshold ≤ voteSum b s.sync))
      { s with sync := { s.sync with pos := 0, acc := 0, w := flipWindow s.sync.w } }
  else
    { s with sync := { s.sync with pos := s.sync.pos + 1, acc := voteSum b s.sync } }

/-- `SYNC.EXTRACT` on each symbol of a window, in time order (R65, R117; log entry 7). -/
def syncWindow (w : List Bit) (s : State) : State := w.foldl (fun t b => syncExtract b t) s

/-- `SYNC.STEP(b)` (R114): exactly one of the three, by `ph` as it was on entry. -/
def syncStep (b : Bit) (s : State) : State :=
  match s.sync.ph with
  | .seekMark => syncSeekMark b s
  | .seekSpace => syncSeekSpace b s
  | .extract => syncExtract b s

/-- `SYNC.END()` (R119): `error` holds the state in which `SyncNotFoundError` ended the command. -/
def syncEnd (s : State) : Except State State :=
  if s.sync.ph = .extract then .ok s else .error (raise .syncNotFound s)

/-- The state `SYNC.END` leaves, raised or not. -/
def syncEndState (s : State) : State :=
  match syncEnd s with
  | .ok t => t
  | .error t => t

/-! ### tone_detector and frame_bit_extractor -/

/-- `emit_sym(b)` (R9): `tap_sym ← tap_sym ++ [b]`, `nsym ← nsym + 1`, then `SYNC.STEP(b)`. -/
def emitSym (b : Bit) (s : State) : State :=
  syncStep b
    { s with str := { s.str with tapSym := s.str.tapSym ++ [b] }, cnt := { s.cnt with nsym := s.cnt.nsym + 1 } }

/-- The ToneFlags of the open frame (R86 steps 1 and 2). -/
def frameFlags (s : State) : Bit × Bit :=
  toneFlags s.cfg.abs (threshold s) (delayPower (coeff .mark s) s.tone.mark) (delayPower (coeff .space s) s.tone.space)

/-- The tone_detector group once the open frame has been closed with the given flags (R86 steps 2 and 3). -/
def closedTone (f : Bit × Bit) (t : Tone) : Tone :=
  { t with n := 0, mark := .zero, space := .zero, markPresent := f.1, spacePresent := f.2 }

/-- `FCLOSE()` (R86). -/
def fclose (s : State) : State :=
  emitSym (fbx (frameFlags s).1 (frameFlags s).2) { s with tone := closedTone (frameFlags s) s.tone }

/-- Steps 1 and 2 of `GSTEP` (R85): both channels take the sample; `n` goes up by 1 and `seen` becomes 1. -/
def takeSample (x : NumQ) (s : State) : State :=
  { s with tone := { s.tone with
      mark := channelStep (coeff .mark s) s.tone.mark x
      space := channelStep (coeff .space s) s.tone.space x
      n := s.tone.n + 1
      seen := b1 } }

/-- `GSTEP(x)` (R85): at `n = FRAME_SIZE` the frame is closed. -/
def gstep (x : NumQ) (s : State) : State :=
  if ((takeSample x s).tone.n : Int) = frameSize s then fclose (takeSample x s) else takeSample x s

/-- What an `FBX` row run by itself does: the Symbol of the flags is its result and no state of the block is read or
written (R100; log entry 5). -/
def fbxResult (m sp : Bit) (s : State) : State := { s with env := { s.env with fbxOut := some (fbx m sp) } }

/-! ### Runs, reset and inputs -/

/-- The clearing of a run (R33, R185 step 4): everything but the configuration, `rdata` and `run` goes to its reset
value; `run` is set by the steps after it. -/
def clearRun (s : State) : State :=
  { s with
    ctl := { s.ctl with err := .none, rej := b0 }
    tone := .reset
    sync := .reset
    dec := .reset
    cnt := .reset
    str := .reset }

/-- A value that `START` needs is `none` (R185 steps 2 and 3). -/
def missesValue (c : Cfg) : Bool :=
  c.src == .samples && (c.coeffMark.isNone || c.coeffSpace.isNone || (c.abs && c.thresh.isNone))

/-- Reset (R230, R181): every element at its reset value. The inputs waiting at the port and the count of inputs taken
are no state of the block and stay (log entry 9). -/
def resetBlock (s : State) : State :=
  { State.reset with env := { s.env with fbxOut := none } }

/-- The oldest input leaves the port; the model's count of inputs goes up (log entries 2 and 4). -/
def takeInput (rest : List Input) (s : State) : State :=
  { s with env := { s.env with pending := rest, free := s.env.free + 1 } }

/-- A stimulus is put where the next step takes it. -/
def placeStimulus (x : Stimulus) (s : State) : State :=
  { s with env := { s.env with pending := .item x :: s.env.pending } }

end Sys2Proof.Machine
end

