-- ==== Sys2Proof/Machine/BaudotRows.lean ====
section
/-!
DEFINITION. The meanings of the baudot_decoder rows: the operations (spec/44_baudot_decoder.md R136 to R138), one character frame per
five-bit key (R141 to R172) and the short final chunks (R173). A frame's start and stop bits are operands without effect
(R66, R247).
-/

namespace Sys2Proof.Machine

/-- `DEC.PUSH(b)` (R136). -/
def execDecPush (b : Bit) (s : State) : Result := .next (decPush b s)

/-- `DEC.EMIT()` (R137). -/
def execDecEmit (s : State) : Result := .next (decEmit s)

/-- `DEC.FLUSH()` (R138). -/
def execDecFlush (s : State) : Result := .next (decFlush s)

/-- `CODE.NUL` (R141): the frame `-00000--`. -/
def execCodeNul (start : Bit) (stop1 stop2 : Option Bit) (s : State) : Result :=
  .next (closeChunk (Decode.frameBits start b0 b0 b0 b0 b0 stop1 stop2) s)

/-- `CODE.SPACE` (R142): the frame `-00100--`. -/
def execCodeSpace (start : Bit) (stop1 stop2 : Option Bit) (s : State) : Result :=
  .next (closeChunk (Decode.frameBits start b0 b0 b1 b0 b0 stop1 stop2) s)

/-- `CODE.Q` (R143): the frame `-10111--`. -/
def execCodeQ (start : Bit) (stop1 stop2 : Option Bit) (s : State) : Result :=
  .next (closeChunk (Decode.frameBits start b1 b0 b1 b1 b1 stop1 stop2) s)

/-- `CODE.W` (R144): the frame `-10011--`. -/
def execCodeW (start : Bit) (stop1 stop2 : Option Bit) (s : State) : Result :=
  .next (closeChunk (Decode.frameBits start b1 b0 b0 b1 b1 stop1 stop2) s)

/-- `CODE.E` (R145): the frame `-00001--`. -/
def execCodeE (start : Bit) (stop1 stop2 : Option Bit) (s : State) : Result :=
  .next (closeChunk (Decode.frameBits start b0 b0 b0 b0 b1 stop1 stop2) s)

/-- `CODE.R` (R146): the frame `-01010--`. -/
def execCodeR (start : Bit) (stop1 stop2 : Option Bit) (s : State) : Result :=
  .next (closeChunk (Decode.frameBits start b0 b1 b0 b1 b0 stop1 stop2) s)

/-- `CODE.T` (R147): the frame `-10000--`. -/
def execCodeT (start : Bit) (stop1 stop2 : Option Bit) (s : State) : Result :=
  .next (closeChunk (Decode.frameBits start b1 b0 b0 b0 b0 stop1 stop2) s)

/-- `CODE.Y` (R148): the frame `-10101--`. -/
def execCodeY (start : Bit) (stop1 stop2 : Option Bit) (s : State) : Result :=
  .next (closeChunk (Decode.frameBits start b1 b0 b1 b0 b1 stop1 stop2) s)

/-- `CODE.U` (R149): the frame `-00111--`. -/
def execCodeU (start : Bit) (stop1 stop2 : Option Bit) (s : State) : Result :=
  .next (closeChunk (Decode.frameBits start b0 b0 b1 b1 b1 stop1 stop2) s)

/-- `CODE.I` (R150): the frame `-00110--`. -/
def execCodeI (start : Bit) (stop1 stop2 : Option Bit) (s : State) : Result :=
  .next (closeChunk (Decode.frameBits start b0 b0 b1 b1 b0 stop1 stop2) s)

/-- `CODE.O` (R151): the frame `-11000--`. -/
def execCodeO (start : Bit) (stop1 stop2 : Option Bit) (s : State) : Result :=
  .next (closeChunk (Decode.frameBits start b1 b1 b0 b0 b0 stop1 stop2) s)

/-- `CODE.P` (R152): the frame `-10110--`. -/
def execCodeP (start : Bit) (stop1 stop2 : Option Bit) (s : State) : Result :=
  .next (closeChunk (Decode.frameBits start b1 b0 b1 b1 b0 stop1 stop2) s)

/-- `CODE.A` (R153): the frame `-00011--`. -/
def execCodeA (start : Bit) (stop1 stop2 : Option Bit) (s : State) : Result :=
  .next (closeChunk (Decode.frameBits start b0 b0 b0 b1 b1 stop1 stop2) s)

/-- `CODE.S` (R154): the frame `-00101--`. -/
def execCodeS (start : Bit) (stop1 stop2 : Option Bit) (s : State) : Result :=
  .next (closeChunk (Decode.frameBits start b0 b0 b1 b0 b1 stop1 stop2) s)

/-- `CODE.D` (R155): the frame `-01001--`. -/
def execCodeD (start : Bit) (stop1 stop2 : Option Bit) (s : State) : Result :=
  .next (closeChunk (Decode.frameBits start b0 b1 b0 b0 b1 stop1 stop2) s)

/-- `CODE.F` (R156): the frame `-01101--`. -/
def execCodeF (start : Bit) (stop1 stop2 : Option Bit) (s : State) : Result :=
  .next (closeChunk (Decode.frameBits start b0 b1 b1 b0 b1 stop1 stop2) s)

/-- `CODE.G` (R157): the frame `-11010--`. -/
def execCodeG (start : Bit) (stop1 stop2 : Option Bit) (s : State) : Result :=
  .next (closeChunk (Decode.frameBits start b1 b1 b0 b1 b0 stop1 stop2) s)

/-- `CODE.H` (R158): the frame `-10100--`. -/
def execCodeH (start : Bit) (stop1 stop2 : Option Bit) (s : State) : Result :=
  .next (closeChunk (Decode.frameBits start b1 b0 b1 b0 b0 stop1 stop2) s)

/-- `CODE.J` (R159): the frame `-01011--`. -/
def execCodeJ (start : Bit) (stop1 stop2 : Option Bit) (s : State) : Result :=
  .next (closeChunk (Decode.frameBits start b0 b1 b0 b1 b1 stop1 stop2) s)

/-- `CODE.K` (R160): the frame `-01111--`. -/
def execCodeK (start : Bit) (stop1 stop2 : Option Bit) (s : State) : Result :=
  .next (closeChunk (Decode.frameBits start b0 b1 b1 b1 b1 stop1 stop2) s)

/-- `CODE.L` (R161): the frame `-10010--`. -/
def execCodeL (start : Bit) (stop1 stop2 : Option Bit) (s : State) : Result :=
  .next (closeChunk (Decode.frameBits start b1 b0 b0 b1 b0 stop1 stop2) s)

/-- `CODE.Z` (R162): the frame `-10001--`. -/
def execCodeZ (start : Bit) (stop1 stop2 : Option Bit) (s : State) : Result :=
  .next (closeChunk (Decode.frameBits start b1 b0 b0 b0 b1 stop1 stop2) s)

/-- `CODE.X` (R163): the frame `-11101--`. -/
def execCodeX (start : Bit) (stop1 stop2 : Option Bit) (s : State) : Result :=
  .next (closeChunk (Decode.frameBits start b1 b1 b1 b0 b1 stop1 stop2) s)

/-- `CODE.C` (R164): the frame `-01110--`. -/
def execCodeC (start : Bit) (stop1 stop2 : Option Bit) (s : State) : Result :=
  .next (closeChunk (Decode.frameBits start b0 b1 b1 b1 b0 stop1 stop2) s)

/-- `CODE.V` (R165): the frame `-11110--`. -/
def execCodeV (start : Bit) (stop1 stop2 : Option Bit) (s : State) : Result :=
  .next (closeChunk (Decode.frameBits start b1 b1 b1 b1 b0 stop1 stop2) s)

/-- `CODE.B` (R166): the frame `-11001--`. -/
def execCodeB (start : Bit) (stop1 stop2 : Option Bit) (s : State) : Result :=
  .next (closeChunk (Decode.frameBits start b1 b1 b0 b0 b1 stop1 stop2) s)

/-- `CODE.N` (R167): the frame `-01100--`. -/
def execCodeN (start : Bit) (stop1 stop2 : Option Bit) (s : State) : Result :=
  .next (closeChunk (Decode.frameBits start b0 b1 b1 b0 b0 stop1 stop2) s)

/-- `CODE.M` (R168): the frame `-11100--`. -/
def execCodeM (start : Bit) (stop1 stop2 : Option Bit) (s : State) : Result :=
  .next (closeChunk (Decode.frameBits start b1 b1 b1 b0 b0 stop1 stop2) s)

/-- `CODE.CR` (R169): the frame `-01000--`. -/
def execCodeCr (start : Bit) (stop1 stop2 : Option Bit) (s : State) : Result :=
  .next (closeChunk (Decode.frameBits start b0 b1 b0 b0 b0 stop1 stop2) s)

/-- `CODE.LF` (R170): the frame `-00010--`. -/
def execCodeLf (start : Bit) (stop1 stop2 : Option Bit) (s : State) : Result :=
  .next (closeChunk (Decode.frameBits start b0 b0 b0 b1 b0 stop1 stop2) s)

/-- `CODE.UNMAPPED_11011` (R171): the frame `-11011--`. -/
def execCodeUnmapped11011 (start : Bit) (stop1 stop2 : Option Bit) (s : State) : Result :=
  .next (closeChunk (Decode.frameBits start b1 b1 b0 b1 b1 stop1 stop2) s)

/-- `CODE.UNMAPPED_11111` (R172): the frame `-11111--`. -/
def execCodeUnmapped11111 (start : Bit) (stop1 stop2 : Option Bit) (s : State) : Result :=
  .next (closeChunk (Decode.frameBits start b1 b1 b1 b1 b1 stop1 stop2) s)

/-- `CODE.SHORT.1` (R173): a final chunk of 1 BaudotBit(s); its key has no entry. -/
def execCodeShort1 (chunk : List Bit) (s : State) : Result := .next (closeChunk chunk s)

/-- `CODE.SHORT.2` (R173): a final chunk of 2 BaudotBit(s); its key has no entry. -/
def execCodeShort2 (chunk : List Bit) (s : State) : Result := .next (closeChunk chunk s)

/-- `CODE.SHORT.3` (R173): a final chunk of 3 BaudotBit(s); its key has no entry. -/
def execCodeShort3 (chunk : List Bit) (s : State) : Result := .next (closeChunk chunk s)

/-- `CODE.SHORT.4` (R173): a final chunk of 4 BaudotBit(s); its key has no entry. -/
def execCodeShort4 (chunk : List Bit) (s : State) : Result := .next (closeChunk chunk s)

/-- `CODE.SHORT.5` (R173): a final chunk of 5 BaudotBit(s); its key has no entry. -/
def execCodeShort5 (chunk : List Bit) (s : State) : Result := .next (closeChunk chunk s)

end Sys2Proof.Machine
end

