-- ==== Sys2Proof/Machine/Command.lean ====
section
/-!
DEFINITION. The meanings of the host commands that open, feed, end and abandon a run, of `NOP` and of the reserved operations
(spec/45_host_commands.md R181, R182, R185 to R190, R193).
-/

namespace Sys2Proof.Machine

/-- `NOP` (R182): the state is unchanged, `rej` included. -/
def execNop (s : State) : Result := .next s

/-- `RST` (R181): every state element gets its reset value, in every state. -/
def execRst (s : State) : Result := .next (resetBlock s)

/-- `START` (R185): the three refusals are tested before anything is cleared; then `InvalidFrameSize`, or the run is
open. -/
def execStart (s : State) : Result :=
  if s.ctl.run = .run then .next (refuse s)
  else if missesValue s.cfg then .next (refuse s)
  else if s.cfg.src = .samples ∧ frameSize s ≤ 0 then .next (raise .invalidFrameSize (clearRun s))
  else .next (setRun .run (clearRun s))

/-- An input command of source `src` (R186 to R188): refused unless a run is open and `MODE.SRC` selects it. -/
def feed (src : Source) (f : State → State) (s : State) : State :=
  if s.ctl.run = .run ∧ s.cfg.src = src then f s else refuse s

/-- `SAMPLE` (R186): one sample, `q16(data)`, not range-checked (D13). -/
def execSample (data : Word32) (s : State) : Result := .next (feed .samples (gstep (q16 data)) s)

/-- `SYM` (R187): one Symbol into the synchronizer; the tone_detector is untouched. -/
def execSym (b : Bit) (s : State) : Result := .next (feed .symbols (emitSym b) s)

/-- `BIT` (R188): one BaudotBit into the decoder; the synchronizer is idle. -/
def execBit (b : Bit) (s : State) : Result := .next (feed .bits (emitBit b) s)

/-- `END` step 2 (R189): the short final frame, if a sample run has one open, is closed (R87). -/
def closeShortFrame (s : State) : State := if s.cfg.src = .samples ∧ 0 < s.tone.n then fclose s else s

/-- `END` step 3 (R189): the synchronisation check, but for a `BITS` run. -/
def checkSync (s : State) : Except State State := if s.cfg.src = .bits then .ok s else syncEnd s

/-- `END` (R189), its steps in order; a `raise` ends the command. -/
def execEndRun (s : State) : Result :=
  if s.ctl.run ≠ .run then .next (refuse s)
  else if s.cfg.src = .samples ∧ s.tone.seen = b0 then .next (raise .invalidFrameSize s)
  else
    match checkSync (closeShortFrame s) with
    | .error t => .next t
    | .ok t => .next (setRun .done (decFlush t))

/-- The reserved operation 0x8 (R190): refused in every state. -/
def execReservedOp8 (s : State) : Result := .next (refuse s)

/-- The reserved operation 0x9 (R190): refused in every state. -/
def execReservedOp9 (s : State) : Result := .next (refuse s)

/-- The reserved operation 0xA (R190): refused in every state. -/
def execReservedOpA (s : State) : Result := .next (refuse s)

/-- The reserved operation 0xB (R190): refused in every state. -/
def execReservedOpB (s : State) : Result := .next (refuse s)

/-- The reserved operation 0xC (R190): refused in every state. -/
def execReservedOpC (s : State) : Result := .next (refuse s)

/-- The reserved operation 0xD (R190): refused in every state. -/
def execReservedOpD (s : State) : Result := .next (refuse s)

/-- The reserved operation 0xE (R190): refused in every state. -/
def execReservedOpE (s : State) : Result := .next (refuse s)

end Sys2Proof.Machine
end

