-- ==== Sys2Proof/Machine/ConfigWrite.lean ====
section
/-!
DEFINITION. The meanings of `CFG`, register by register (spec/45_host_commands.md R183; payloads spec/30_encoding.md R63).
-/

namespace Sys2Proof.Machine

/-- `CFG.FRAME_SIZE` (R183): sets `FRAME_SIZE`; a value ≤ 0 is stored (R12), unless a run is open. -/
def execCfgFrameSize (data : Word32) (s : State) : Result := .next (cfgWrite (fun c => { c with frameSize := data }) s)

/-- `CFG.COEFF_MARK` (R183): sets `COEFF_MARK` to `some q16(data)` (R13), unless a run is open. -/
def execCfgCoeffMark (data : Word32) (s : State) : Result := .next (cfgWrite (fun c => { c with coeffMark := some data }) s)

/-- `CFG.COEFF_SPACE` (R183): sets `COEFF_SPACE` to `some q16(data)` (R13), unless a run is open. -/
def execCfgCoeffSpace (data : Word32) (s : State) : Result := .next (cfgWrite (fun c => { c with coeffSpace := some data }) s)

/-- `CFG.MODE` (R183): sets both fields of `MODE`, unless a run is open; refused whole when `SRC` is the reserved 3
(R14). -/
def execCfgMode (abs : Bit) (src : BitVec 2) (s : State) : Result :=
  match sourceOf src with
  | none => .next (refuse s)
  | some r => .next (cfgWrite (fun c => { c with abs := abs, src := r }) s)

/-- `CFG.THRESH` (R183): sets `THRESH` to `some q16(data)` (R15), unless a run is open. -/
def execCfgThresh (data : Word32) (s : State) : Result := .next (cfgWrite (fun c => { c with thresh := some data }) s)

/-- `CFG` to the reserved index 0x5 (R183, R30): refused in every state. -/
def execCfgReserved5 (s : State) : Result := .next (refuse s)

/-- `CFG` to the reserved index 0x6 (R183, R30): refused in every state. -/
def execCfgReserved6 (s : State) : Result := .next (refuse s)

/-- `CFG` to the reserved index 0x7 (R183, R30): refused in every state. -/
def execCfgReserved7 (s : State) : Result := .next (refuse s)

/-- `CFG` to the read-only `STATUS` (R183, R30): refused in every state. -/
def execCfgStatus (s : State) : Result := .next (refuse s)

/-- `CFG` to the read-only `SYMBOL_COUNT` (R183, R30): refused in every state. -/
def execCfgSymbolCount (s : State) : Result := .next (refuse s)

/-- `CFG` to the read-only `BIT_COUNT` (R183, R30): refused in every state. -/
def execCfgBitCount (s : State) : Result := .next (refuse s)

/-- `CFG` to the read-only `CHAR_COUNT` (R183, R30): refused in every state. -/
def execCfgCharCount (s : State) : Result := .next (refuse s)

/-- `CFG` to the read-only `SYNC_ANCHOR` (R183, R30): refused in every state. -/
def execCfgSyncAnchor (s : State) : Result := .next (refuse s)

/-- `CFG` to the reserved index 0xD (R183, R30): refused in every state. -/
def execCfgReservedD (s : State) : Result := .next (refuse s)

/-- `CFG` to the reserved index 0xE (R183, R30): refused in every state. -/
def execCfgReservedE (s : State) : Result := .next (refuse s)

/-- `CFG` to the reserved index 0xF (R183, R30): refused in every state. -/
def execCfgReservedF (s : State) : Result := .next (refuse s)

end Sys2Proof.Machine
end

