-- ==== Sys2Proof/Machine/RegisterRead.lean ====
section
/-!
DEFINITION. The meanings of `RD`, register by register (spec/45_host_commands.md R184; read values spec/10_state.md R30, R31).
Legal in every state; only `rdata` changes.
-/

namespace Sys2Proof.Machine

/-- `RD` of `FRAME_SIZE` (R30): the stored word. -/
def execRdFrameSize (s : State) : Result := .next (setRdata s.cfg.frameSize s)

/-- `RD` of `COEFF_MARK` (R30): the word last written, 0 if `none`. -/
def execRdCoeffMark (s : State) : Result := .next (setRdata (optionWord s.cfg.coeffMark) s)

/-- `RD` of `COEFF_SPACE` (R30): the word last written, 0 if `none`. -/
def execRdCoeffSpace (s : State) : Result := .next (setRdata (optionWord s.cfg.coeffSpace) s)

/-- `RD` of `MODE` (R30): `ABS` in bit 0, `SRC` in bits 2:1. -/
def execRdMode (s : State) : Result := .next (setRdata (modeWord s.cfg) s)

/-- `RD` of `THRESH` (R30): the word last written, 0 if `none`. -/
def execRdThresh (s : State) : Result := .next (setRdata (optionWord s.cfg.thresh) s)

/-- `RD` of the reserved index 0x5 (R30): reads 0. -/
def execRdReserved5 (s : State) : Result := .next (setRdata 0 s)

/-- `RD` of the reserved index 0x6 (R30): reads 0. -/
def execRdReserved6 (s : State) : Result := .next (setRdata 0 s)

/-- `RD` of the reserved index 0x7 (R30): reads 0. -/
def execRdReserved7 (s : State) : Result := .next (setRdata 0 s)

/-- `RD` of `STATUS` (R30): the word of R31. -/
def execRdStatus (s : State) : Result := .next (setRdata (statusWord s) s)

/-- `RD` of `SYMBOL_COUNT` (R30): `nsym mod 2^32`. -/
def execRdSymbolCount (s : State) : Result := .next (setRdata (countWord s.cnt.nsym) s)

/-- `RD` of `BIT_COUNT` (R30): `nbit mod 2^32`. -/
def execRdBitCount (s : State) : Result := .next (setRdata (countWord s.cnt.nbit) s)

/-- `RD` of `CHAR_COUNT` (R30): `nchar mod 2^32`. -/
def execRdCharCount (s : State) : Result := .next (setRdata (countWord s.cnt.nchar) s)

/-- `RD` of `SYNC_ANCHOR` (R30): `anchor mod 2^32`. -/
def execRdSyncAnchor (s : State) : Result := .next (setRdata (countWord s.sync.anchor) s)

/-- `RD` of the reserved index 0xD (R30): reads 0. -/
def execRdReservedD (s : State) : Result := .next (setRdata 0 s)

/-- `RD` of the reserved index 0xE (R30): reads 0. -/
def execRdReservedE (s : State) : Result := .next (setRdata 0 s)

/-- `RD` of the reserved index 0xF (R30): reads 0. -/
def execRdReservedF (s : State) : Result := .next (setRdata 0 s)

end Sys2Proof.Machine
end

