-- ==== Sys2Proof/Machine/SyncRows.lean ====
section
/-!
DEFINITION. The meanings of the bit_synchronizer rows (spec/43_bit_synchronizer.md R114 to R119), each run by itself (log entries 3
and 7).
-/

namespace Sys2Proof.Machine

/-- `SYNC.STEP(b)` (R114). -/
def execSyncStep (b : Bit) (s : State) : Result := .next (syncStep b s)

/-- `SYNC.SEEK_MARK(b)` (R115). -/
def execSyncSeekMark (b : Bit) (s : State) : Result := .next (syncSeekMark b s)

/-- `SYNC.SEEK_SPACE(b)` (R116). -/
def execSyncSeekSpace (b : Bit) (s : State) : Result := .next (syncSeekSpace b s)

/-- `SYNC.EXTRACT` over a window of 7 (R117, R65). -/
def execSyncExtractW7 (w : List Bit) (s : State) : Result := .next (syncWindow w s)

/-- `SYNC.EXTRACT` over a window of 8 (R117, R65). -/
def execSyncExtractW8 (w : List Bit) (s : State) : Result := .next (syncWindow w s)

/-- `SYNC.END()` (R119): raises `SyncNotFoundError` unless synchronised. -/
def execSyncEnd (s : State) : Result := .next (syncEndState s)

end Sys2Proof.Machine
end

