-- ==== Sys2Proof/Machine/ToneRows.lean ====
section
/-!
DEFINITION. The meanings of the tone_detector and frame_bit_extractor rows (spec/41_tone_detector.md R85, R86;
spec/42_frame_bit_extractor.md R100), each run by itself (log entries 3 and 5).
-/

namespace Sys2Proof.Machine

/-- `GSTEP(x)` (R85). -/
def execGstep (x : NumQ) (s : State) : Result := .next (gstep x s)

/-- `FCLOSE()` (R86). -/
def execFclose (s : State) : Result := .next (fclose s)

/-- `FBX(0, 0)` (R100): the Symbol is 0; no state of the block changes. -/
def execFbx00 (s : State) : Result := .next (fbxResult b0 b0 s)

/-- `FBX(0, 1)` (R100): the Symbol is 0; no state of the block changes. -/
def execFbx01 (s : State) : Result := .next (fbxResult b0 b1 s)

/-- `FBX(1, 0)` (R100): the Symbol is 1; no state of the block changes. -/
def execFbx10 (s : State) : Result := .next (fbxResult b1 b0 s)

/-- `FBX(1, 1)` (R100): the Symbol is 1; no state of the block changes. -/
def execFbx11 (s : State) : Result := .next (fbxResult b1 b1 s)

end Sys2Proof.Machine
end

