-- ==== Sys2Proof/Machine/Dispatch.lean ====
section
/-!
DEFINITION. One arm per constructor of `Instr`, each a call of the row's own meaning (spec/45_host_commands.md R180).
-/

namespace Sys2Proof.Machine

/-- The effect of one instruction. -/
def exec (i : Instr) (s : State) : Host.Outcome State Fault Refusal :=
  match i with
  | .nop => Sys2Proof.Machine.execNop s
  | .cfgFrameSize data => Sys2Proof.Machine.execCfgFrameSize data s
  | .cfgCoeffMark data => Sys2Proof.Machine.execCfgCoeffMark data s
  | .cfgCoeffSpace data => Sys2Proof.Machine.execCfgCoeffSpace data s
  | .cfgMode abs src => Sys2Proof.Machine.execCfgMode abs src s
  | .cfgThresh data => Sys2Proof.Machine.execCfgThresh data s
  | .cfgReserved5 => Sys2Proof.Machine.execCfgReserved5 s
  | .cfgReserved6 => Sys2Proof.Machine.execCfgReserved6 s
  | .cfgReserved7 => Sys2Proof.Machine.execCfgReserved7 s
  | .cfgStatus => Sys2Proof.Machine.execCfgStatus s
  | .cfgSymbolCount => Sys2Proof.Machine.execCfgSymbolCount s
  | .cfgBitCount => Sys2Proof.Machine.execCfgBitCount s
  | .cfgCharCount => Sys2Proof.Machine.execCfgCharCount s
  | .cfgSyncAnchor => Sys2Proof.Machine.execCfgSyncAnchor s
  | .cfgReservedD => Sys2Proof.Machine.execCfgReservedD s
  | .cfgReservedE => Sys2Proof.Machine.execCfgReservedE s
  | .cfgReservedF => Sys2Proof.Machine.execCfgReservedF s
  | .start => Sys2Proof.Machine.execStart s
  | .sample data => Sys2Proof.Machine.execSample data s
  | .sym b => Sys2Proof.Machine.execSym b s
  | .bit b => Sys2Proof.Machine.execBit b s
  | .endRun => Sys2Proof.Machine.execEndRun s
  | .rdFrameSize => Sys2Proof.Machine.execRdFrameSize s
  | .rdCoeffMark => Sys2Proof.Machine.execRdCoeffMark s
  | .rdCoeffSpace => Sys2Proof.Machine.execRdCoeffSpace s
  | .rdMode => Sys2Proof.Machine.execRdMode s
  | .rdThresh => Sys2Proof.Machine.execRdThresh s
  | .rdReserved5 => Sys2Proof.Machine.execRdReserved5 s
  | .rdReserved6 => Sys2Proof.Machine.execRdReserved6 s
  | .rdReserved7 => Sys2Proof.Machine.execRdReserved7 s
  | .rdStatus => Sys2Proof.Machine.execRdStatus s
  | .rdSymbolCount => Sys2Proof.Machine.execRdSymbolCount s
  | .rdBitCount => Sys2Proof.Machine.execRdBitCount s
  | .rdCharCount => Sys2Proof.Machine.execRdCharCount s
  | .rdSyncAnchor => Sys2Proof.Machine.execRdSyncAnchor s
  | .rdReservedD => Sys2Proof.Machine.execRdReservedD s
  | .rdReservedE => Sys2Proof.Machine.execRdReservedE s
  | .rdReservedF => Sys2Proof.Machine.execRdReservedF s
  | .reservedOp8 => Sys2Proof.Machine.execReservedOp8 s
  | .reservedOp9 => Sys2Proof.Machine.execReservedOp9 s
  | .reservedOpA => Sys2Proof.Machine.execReservedOpA s
  | .reservedOpB => Sys2Proof.Machine.execReservedOpB s
  | .reservedOpC => Sys2Proof.Machine.execReservedOpC s
  | .reservedOpD => Sys2Proof.Machine.execReservedOpD s
  | .reservedOpE => Sys2Proof.Machine.execReservedOpE s
  | .rst => Sys2Proof.Machine.execRst s
  | .fbx00 => Sys2Proof.Machine.execFbx00 s
  | .fbx01 => Sys2Proof.Machine.execFbx01 s
  | .fbx10 => Sys2Proof.Machine.execFbx10 s
  | .fbx11 => Sys2Proof.Machine.execFbx11 s
  | .syncSeekMark b => Sys2Proof.Machine.execSyncSeekMark b s
  | .syncSeekSpace b => Sys2Proof.Machine.execSyncSeekSpace b s
  | .syncExtractW7 w => Sys2Proof.Machine.execSyncExtractW7 w s
  | .syncExtractW8 w => Sys2Proof.Machine.execSyncExtractW8 w s
  | .codeNul start stop1 stop2 => Sys2Proof.Machine.execCodeNul start stop1 stop2 s
  | .codeSpace start stop1 stop2 => Sys2Proof.Machine.execCodeSpace start stop1 stop2 s
  | .codeQ start stop1 stop2 => Sys2Proof.Machine.execCodeQ start stop1 stop2 s
  | .codeW start stop1 stop2 => Sys2Proof.Machine.execCodeW start stop1 stop2 s
  | .codeE start stop1 stop2 => Sys2Proof.Machine.execCodeE start stop1 stop2 s
  | .codeR start stop1 stop2 => Sys2Proof.Machine.execCodeR start stop1 stop2 s
  | .codeT start stop1 stop2 => Sys2Proof.Machine.execCodeT start stop1 stop2 s
  | .codeY start stop1 stop2 => Sys2Proof.Machine.execCodeY start stop1 stop2 s
  | .codeU start stop1 stop2 => Sys2Proof.Machine.execCodeU start stop1 stop2 s
  | .codeI start stop1 stop2 => Sys2Proof.Machine.execCodeI start stop1 stop2 s
  | .codeO start stop1 stop2 => Sys2Proof.Machine.execCodeO start stop1 stop2 s
  | .codeP start stop1 stop2 => Sys2Proof.Machine.execCodeP start stop1 stop2 s
  | .codeA start stop1 stop2 => Sys2Proof.Machine.execCodeA start stop1 stop2 s
  | .codeS start stop1 stop2 => Sys2Proof.Machine.execCodeS start stop1 stop2 s
  | .codeD start stop1 stop2 => Sys2Proof.Machine.execCodeD start stop1 stop2 s
  | .codeF start stop1 stop2 => Sys2Proof.Machine.execCodeF start stop1 stop2 s
  | .codeG start stop1 stop2 => Sys2Proof.Machine.execCodeG start stop1 stop2 s
  | .codeH start stop1 stop2 => Sys2Proof.Machine.execCodeH start stop1 stop2 s
  | .codeJ start stop1 stop2 => Sys2Proof.Machine.execCodeJ start stop1 stop2 s
  | .codeK start stop1 stop2 => Sys2Proof.Machine.execCodeK start stop1 stop2 s
  | .codeL start stop1 stop2 => Sys2Proof.Machine.execCodeL start stop1 stop2 s
  | .codeZ start stop1 stop2 => Sys2Proof.Machine.execCodeZ start stop1 stop2 s
  | .codeX start stop1 stop2 => Sys2Proof.Machine.execCodeX start stop1 stop2 s
  | .codeC start stop1 stop2 => Sys2Proof.Machine.execCodeC start stop1 stop2 s
  | .codeV start stop1 stop2 => Sys2Proof.Machine.execCodeV start stop1 stop2 s
  | .codeB start stop1 stop2 => Sys2Proof.Machine.execCodeB start stop1 stop2 s
  | .codeN start stop1 stop2 => Sys2Proof.Machine.execCodeN start stop1 stop2 s
  | .codeM start stop1 stop2 => Sys2Proof.Machine.execCodeM start stop1 stop2 s
  | .codeCr start stop1 stop2 => Sys2Proof.Machine.execCodeCr start stop1 stop2 s
  | .codeLf start stop1 stop2 => Sys2Proof.Machine.execCodeLf start stop1 stop2 s
  | .codeUnmapped11011 start stop1 stop2 => Sys2Proof.Machine.execCodeUnmapped11011 start stop1 stop2 s
  | .codeUnmapped11111 start stop1 stop2 => Sys2Proof.Machine.execCodeUnmapped11111 start stop1 stop2 s
  | .codeShort1 chunk => Sys2Proof.Machine.execCodeShort1 chunk s
  | .codeShort2 chunk => Sys2Proof.Machine.execCodeShort2 chunk s
  | .codeShort3 chunk => Sys2Proof.Machine.execCodeShort3 chunk s
  | .codeShort4 chunk => Sys2Proof.Machine.execCodeShort4 chunk s
  | .codeShort5 chunk => Sys2Proof.Machine.execCodeShort5 chunk s
  | .gstep x => Sys2Proof.Machine.execGstep x s
  | .fclose => Sys2Proof.Machine.execFclose s
  | .syncStep b => Sys2Proof.Machine.execSyncStep b s
  | .syncEnd => Sys2Proof.Machine.execSyncEnd s
  | .decPush b => Sys2Proof.Machine.execDecPush b s
  | .decEmit => Sys2Proof.Machine.execDecEmit s
  | .decFlush => Sys2Proof.Machine.execDecFlush s

end Sys2Proof.Machine
end

