-- ==== Sys2Proof/Machine/Step.lean ====
section
/-!
DEFINITION. The step function (spec/45_host_commands.md R180): the oldest input at the port is taken, decoded and run to
completion; with no input the block holds its state (spec/60_exceptions.md R219).
-/

namespace Sys2Proof.Machine

/-- One step. With nothing at the port the block holds its state: it never steps on its own (R180, R219). The reset input
gives the reset state (R230). A stimulus is decoded and its instruction runs; one in no format is refused by name. -/
def step (s : State) : Host.Outcome State Fault Refusal :=
  match s.env.pending with
  | [] => .next s
  | .resetPin :: rest => .next (resetBlock (takeInput rest s))
  | .item x :: rest =>
    match decode x with
    | .ok i => exec i (takeInput rest s)
    | .error e => .refused (.malformed e)

/-- `s` with the table word `w` of `nbits` bits at the head of the port, where the next step takes it. A row without bits
places nothing. -/
def State.withFetchWord (s : State) (nbits w : Nat) : State :=
  match tableStimulus nbits w with
  | some x => placeStimulus x s
  | none => s

end Sys2Proof.Machine
end

