-- ==== Sys2Proof/Machine/Assembler.lean ====
section
/-!
DEFINITION. The stimulus notation of spec/30_encoding.md R72, R73: the pseudo-instructions as lists of instructions, which
`encode` assembles to canonical command words, and the Q16.16 word of an operand.
-/

namespace Sys2Proof.Machine

/-- The Q16.16 word of the number `num / 65536` (R63): what an assembler writes for a `SAMPLE`, a coefficient or a
threshold, the number being exactly representable (R72). -/
def q16Word (num : Int) : Word32 := BitVec.ofInt 32 num

namespace Asm

/-- `SYMS b0 b1 ... bm` (R73). -/
def syms (bs : List Bit) : List Instr := bs.map Instr.sym

/-- `BITS b0 b1 ... bm` (R73). -/
def bits (bs : List Bit) : List Instr := bs.map Instr.bit

/-- `SAMPLES x0 x1 ... xm` (R73), each operand as its Q16.16 word. -/
def samples (xs : List Word32) : List Instr := xs.map Instr.sample

/-- `REP n { body }` (R73). -/
def rep (n : Nat) (body : List Instr) : List Instr := (List.replicate n body).flatten

/-- `RUNLEN (v0,n0) (v1,n1) ...` (R73). -/
def runlen (runs : List (Bit × Nat)) : List Instr := runs.flatMap fun r => rep r.2 [Instr.sym r.1]

/-- `FRAME.M12` (R73): twelve samples, a tone of period 4. -/
def frameM12 : List Instr := rep 3 (samples [q16Word 65536, 0, q16Word (-65536), 0])

/-- `FRAME.S12` (R73): twelve samples, a tone of period 6. -/
def frameS12 : List Instr :=
  rep 2 (samples [q16Word 65536, q16Word 32768, q16Word (-32768), q16Word (-65536), q16Word (-32768), q16Word 32768])

/-- `DECODE buf` (R73): `START`, the samples, `END`. -/
def decodeRun (buf : List Word32) : List Instr := Instr.start :: samples buf ++ [Instr.endRun]

end Asm

end Sys2Proof.Machine
end

