-- ==== Sys2Proof/Machine/Batch.lean ====
section
/-!
DEFINITION. The functions over whole sequences, DOC0's batch form, which define the result of a run
(spec/90_conflicts.md C7): spec/41_tone_detector.md R81, R82, R91; spec/42_frame_bit_extractor.md R101;
spec/43_bit_synchronizer.md R111 to R113; spec/44_baudot_decoder.md R131, R135; spec/45_host_commands.md R191.
-/

namespace Sys2Proof.Machine

/-- `ceil(a / b)`; 0 when `b = 0`. -/
def ceilDiv (a b : Nat) : Nat := (a + (b - 1)) / b

/-- The consecutive groups of `f` elements, the last one possibly shorter: group `i` is `s[i·f : i·f + f]` (R81, R131). -/
def groups {α : Type} (f : Nat) (s : List α) : List (List α) :=
  (List.range (ceilDiv s.length f)).map fun i => slice s (i * f) (i * f + f)

/-! ### tone_detector and frame_bit_extractor -/

/-- `Frames(buf, F)` (R81), for `F ≥ 1`. -/
def frames (buf : List NumQ) (f : Nat) : List (List NumQ) := groups f buf

/-- `Power(c, fr)` (R82). -/
def power (c : NumQ) (fr : List NumQ) : NumQ := delayPower c (fr.foldl (channelStep c) Delay.zero)

/-- What the batch functions take from the configuration (R191): `F`, the two coefficients, the mode, the threshold. -/
structure DecodeCfg where
  frameSize : Int
  coeffMark : NumQ
  coeffSpace : NumQ
  abs : Bit
  thresh : NumQ
deriving DecidableEq, Repr

/-- The ToneFlags of one frame (R84, R91). -/
def flagsOf (c : DecodeCfg) (fr : List NumQ) : Bit × Bit :=
  toneFlags c.abs c.thresh (power c.coeffMark fr) (power c.coeffSpace fr)

/-- `ToneFlagsSeq(buf)` (R91). -/
def toneFlagsSeq (c : DecodeCfg) (buf : List NumQ) : List (Bit × Bit) :=
  (frames buf c.frameSize.toNat).map (flagsOf c)

/-- `SymbolSeq(flags)` (R101). -/
def symbolSeq (flags : List (Bit × Bit)) : List Bit := flags.map fun f => fbx f.1 f.2

/-! ### bit_synchronizer -/

/-- How many elements at the head of `s` equal `b`: where a bounded scan over `b` stops (R111). -/
def runLength (b : Bit) (s : List Bit) : Nat := (s.takeWhile (· == b)).length

/-- Where the first scan of R111 stops: the index of the first mark, or `N`. -/
def firstMark (sy : List Bit) : Nat := runLength b0 sy

/-- Where the second scan of R111 stops: the index of the first space after the first mark, or `N`. -/
def firstSpaceAfterMark (sy : List Bit) : Nat := firstMark sy + runLength b1 (sy.drop (firstMark sy))

/-- `Anchor(sy)` (R111); `none` stands for its failure with `SyncNotFoundError`. -/
def anchorOf (sy : List Bit) : Option Nat :=
  if firstMark sy = sy.length then none
  else if firstSpaceAfterMark sy = sy.length then none
  else some (firstSpaceAfterMark sy + 1)

/-- `Vote(w)` (R113): the majority of positions 1 to 5. -/
def vote (w : List Bit) : Bit :=
  decide (Config.voteThreshold ≤ ((slice w Config.firstDataPos (Config.lastDataPos + 1)).map bitNat).sum)

/-- The loop of R112 on the symbols from index `r` on; the number bounds its turns. -/
def bitsFrom : Nat → WindowLen → List Bit → List Bit
  | 0, _, _ => []
  | fuel + 1, w, rest =>
    if windowLength w ≤ rest.length then
      vote (slice rest 0 (windowLength w)) :: bitsFrom fuel (flipWindow w) (rest.drop (windowLength w))
    else []

/-- `Bits(sy)` (R112); `none` when `Anchor(sy)` fails. A window consumes at least one symbol, so `N` turns suffice. -/
def bitsOf (sy : List Bit) : Option (List Bit) :=
  (anchorOf sy).map fun a => bitsFrom sy.length .seven (sy.drop a)

/-- The number of symbols `q` windows consume: `7·ceil(q/2) + 8·floor(q/2)` (R47, R112). -/
def windowSpan (q : Nat) : Nat := 7 * ((q + 1) / 2) + 8 * (q / 2)

/-! ### baudot_decoder -/

/-- `Chunks(bits)` (R131). -/
def chunks (bits : List Bit) : List (List Bit) := groups Config.chunkLength bits

/-- `Text(bits)` (R135). -/
def textOf (bits : List Bit) : List Byte := (chunks bits).map chunkChar

/-! ### The whole block -/

/-- `Decode(cfg, buf)` (R191): an error, or the text with the counts of symbols, BaudotBits and characters. -/
def decodeBuffer (c : DecodeCfg) (buf : List NumQ) : Except ErrCause (List Byte × Nat × Nat × Nat) :=
  if c.frameSize ≤ 0 ∨ buf = [] then .error .invalidFrameSize
  else
    match bitsOf (symbolSeq (toneFlagsSeq c buf)) with
    | none => .error .syncNotFound
    | some bits => .ok (textOf bits, (symbolSeq (toneFlagsSeq c buf)).length, bits.length, (textOf bits).length)

end Sys2Proof.Machine
end

