-- ==== Sys2Proof/Safety.lean ====
section
/-!
DEFINITION. The terms claims are stated in: which inputs the hardware has, which states they reach, the invariants of
spec/10_state.md R29, the legality table of spec/45_host_commands.md R193, and a run of a list of instructions.
-/

namespace Sys2Proof.Machine

/-! ### Inputs of the hardware -/

/-- The inputs the hardware itself has: the reset input and the command port (R230, R61). The other stimuli are the
model's (log entry 3). -/
def isHardwareInput : Input → Bool
  | .resetPin => true
  | .item (.cmd _) => true
  | .item _ => false

/-- `s` with exactly the input `x` at the port. -/
def offer (x : Input) (s : State) : State := { s with env := { s.env with pending := [x] } }

/-- The states the block reaches from reset when the host presents inputs of the hardware, one at a time. -/
inductive Reachable : State → Prop where
  | reset : Reachable State.reset
  | input {s t : State} {x : Input} : Reachable s → isHardwareInput x = true → step (offer x s) = .next t → Reachable t

/-! ### Running a list of instructions -/

/-- The effects of a list of instructions, one after another; it stops where one does not answer a next state. -/
def execAll : List Instr → State → Host.Outcome State Fault Refusal
  | [], s => .next s
  | i :: is, s =>
    match exec i s with
    | .next t => execAll is t
    | .fault r => .fault r
    | .refused r => .refused r

/-- `NOP` and the sixteen `RD` commands: what R192 lets a host mix in anywhere. -/
def isObserver : Instr → Bool
  | .nop | .rdFrameSize | .rdCoeffMark | .rdCoeffSpace | .rdMode | .rdThresh | .rdReserved5 | .rdReserved6
  | .rdReserved7 | .rdStatus | .rdSymbolCount | .rdBitCount | .rdCharCount | .rdSyncAnchor | .rdReservedD
  | .rdReservedE | .rdReservedF => true
  | _ => false

/-- The writes of a configuration register that R183 accepts outside `RUN`. -/
def isCfgWrite : Instr → Bool
  | .cfgFrameSize _ | .cfgCoeffMark _ | .cfgCoeffSpace _ | .cfgThresh _ => true
  | .cfgMode _ src => (sourceOf src).isSome
  | _ => false

/-- The other `CFG` words: reserved and read-only registers, and the reserved `MODE.SRC` (R183). -/
def isCfgRejected : Instr → Bool
  | .cfgReserved5 | .cfgReserved6 | .cfgReserved7 | .cfgStatus | .cfgSymbolCount | .cfgBitCount | .cfgCharCount
  | .cfgSyncAnchor | .cfgReservedD | .cfgReservedE | .cfgReservedF => true
  | .cfgMode _ src => (sourceOf src).isNone
  | _ => false

/-- The reserved operations 0x8 to 0xE (R190). -/
def isReservedOp : Instr → Bool
  | .reservedOp8 | .reservedOp9 | .reservedOpA | .reservedOpB | .reservedOpC | .reservedOpD | .reservedOpE => true
  | _ => false

/-- Is the command accepted in this state? The table of R193, with the further conditions of the commands' rules (R183
for `CFG`, R185 steps 2 and 3 for `START`). -/
def accepted (i : Instr) (s : State) : Bool :=
  match i with
  | .rst => true
  | .start => s.ctl.run != .run && !(s.cfg.src == .samples
      && (s.cfg.coeffMark == none || s.cfg.coeffSpace == none || (s.cfg.abs && s.cfg.thresh == none)))
  | .sample _ => s.ctl.run == .run && s.cfg.src == .samples
  | .sym _ => s.ctl.run == .run && s.cfg.src == .symbols
  | .bit _ => s.ctl.run == .run && s.cfg.src == .bits
  | .endRun => s.ctl.run == .run
  | i => isObserver i || (isCfgWrite i && s.ctl.run != .run)

/-! ### Results in closed form

What one BaudotBit, one Symbol, one closed frame and one sample do, written out field by field from the rules, so that a
statement gives a result without naming the operation that computes it. -/

/-- `s` after the character `c` is emitted and the open chunk is closed (R137 steps 2 and 3). -/
def afterChar (c : Byte) (s : State) : State :=
  { s with
    dec := { k := 0, key := [] }
    cnt := { s.cnt with nchar := s.cnt.nchar + 1 }
    str := { s.str with out := s.str.out ++ [c] } }

/-- The character of a key: the byte of its CodeTable entry, 0x20 if it has none (R133, R134). -/
def keyChar (key : List Bit) : Byte := (codeEntries.lookup key).getD 0x20

/-- `s` after the decoder alone takes the BaudotBit `b` (R136, R137). -/
def afterPush (b : Bit) (s : State) : State :=
  if s.dec.k = 7 then afterChar (keyChar s.dec.key) s
  else { s with dec := { k := s.dec.k + 1, key := if 1 ≤ s.dec.k ∧ s.dec.k ≤ 5 then s.dec.key ++ [b] else s.dec.key } }

/-- `s` after the BaudotBit `b` is emitted (R9, R136, R137). -/
def afterBit (b : Bit) (s : State) : State :=
  afterPush b
    { s with
      cnt := { s.cnt with nbit := s.cnt.nbit + 1 }
      str := { s.str with tapBit := s.str.tapBit ++ [b] } }

/-- `s` after the synchronizer alone takes the Symbol `b` (R114 to R118). -/
def afterSymbol (b : Bit) (s : State) : State :=
  let sum := s.sync.acc + (if 1 ≤ s.sync.pos ∧ s.sync.pos ≤ 5 ∧ b = b1 then 1 else 0)
  match s.sync.ph, b with
  | .seekMark, false => s
  | .seekMark, true => { s with sync := { s.sync with ph := .seekSpace } }
  | .seekSpace, true => s
  | .seekSpace, false => { s with sync := { s.sync with ph := .extract, anchor := s.cnt.nsym } }
  | .extract, _ =>
    match s.sync.w with
    | .seven =>
      if s.sync.pos + 1 = 7 then
        afterBit (decide (3 ≤ sum)) { s with sync := { s.sync with pos := 0, acc := 0, w := .eight } }
      else { s with sync := { s.sync with pos := s.sync.pos + 1, acc := sum } }
    | .eight =>
      if s.sync.pos + 1 = 8 then
        afterBit (decide (3 ≤ sum)) { s with sync := { s.sync with pos := 0, acc := 0, w := .seven } }
      else { s with sync := { s.sync with pos := s.sync.pos + 1, acc := sum } }

/-- `s` after the Symbol `b` is emitted (R9, R114). -/
def afterSym (b : Bit) (s : State) : State :=
  afterSymbol b
    { s with
      cnt := { s.cnt with nsym := s.cnt.nsym + 1 }
      str := { s.str with tapSym := s.str.tapSym ++ [b] } }

/-- `s1² + s2² − c·s1·s2` for one channel's registers (R86 step 1). -/
def registerPower (c : NumQ) (d : Delay) : NumQ := d.s1 * d.s1 + d.s2 * d.s2 - c * d.s1 * d.s2

/-- Is the mark present in the open frame (R84, R86)? -/
def markFlag (s : State) : Bit :=
  if s.cfg.abs = b1 then decide (registerPower (coeff .mark s) s.tone.mark > threshold s)
  else decide (registerPower (coeff .mark s) s.tone.mark > registerPower (coeff .space s) s.tone.space)

/-- Is the space present in the open frame (R84, R86)? In relative mode, the complement of the mark. -/
def spaceFlag (s : State) : Bit :=
  if s.cfg.abs = b1 then decide (registerPower (coeff .space s) s.tone.space > threshold s)
  else !markFlag s

/-- `s` after the open frame is closed (R86): the flags are stored, the registers cleared, the Symbol handed on. -/
def afterFrame (s : State) : State :=
  afterSym (markFlag s)
    { s with tone := { n := 0, seen := s.tone.seen, mark := { s1 := 0, s2 := 0 }, space := { s1 := 0, s2 := 0 },
                       markPresent := markFlag s, spacePresent := spaceFlag s } }

/-- `s` after both channels take the sample `x` (R85 steps 1 and 2). -/
def afterRecurrence (x : NumQ) (s : State) : State :=
  { s with tone := { s.tone with
      n := s.tone.n + 1
      seen := b1
      mark := { s1 := x + coeff .mark s * s.tone.mark.s1 - s.tone.mark.s2, s2 := s.tone.mark.s1 }
      space := { s1 := x + coeff .space s * s.tone.space.s1 - s.tone.space.s2, s2 := s.tone.space.s1 } } }

/-- `s` after the sample `x` (R85). -/
def afterSample (x : NumQ) (s : State) : State :=
  if (s.tone.n : Int) + 1 = s.cfg.frameSize.toInt then afterFrame (afterRecurrence x s) else afterRecurrence x s

/-- `s` after a refused command (R210). -/
def afterRefusal (s : State) : State := { s with ctl := { s.ctl with rej := b1 } }

/-- `s` after the error `e` is raised (R205). -/
def afterError (e : ErrCause) (s : State) : State := { s with ctl := { s.ctl with run := .err, err := e } }

/-- `s` after `rdata` is written (R184). -/
def afterRead (v : Word32) (s : State) : State := { s with ctl := { s.ctl with rdata := v } }

/-- `s` after `START` has cleared the run state (R33, R185 step 4), with `run` set to `r` and `err` to `e`. -/
def afterStart (r : RunState) (e : ErrCause) (s : State) : State :=
  { cfg := s.cfg
    ctl := { run := r, err := e, rej := b0, rdata := s.ctl.rdata }
    tone := { n := 0, seen := b0, mark := { s1 := 0, s2 := 0 }, space := { s1 := 0, s2 := 0 }, markPresent := b0,
              spacePresent := b0 }
    sync := { ph := .seekMark, pos := 0, w := .seven, acc := 0, anchor := 0 }
    dec := { k := 0, key := [] }
    cnt := { nsym := 0, nbit := 0, nchar := 0 }
    str := { out := [], tapSym := [], tapBit := [] }
    env := s.env }

/-- `s` after the last steps of an `END` that raises nothing (R138, R189 steps 4 and 5). -/
def afterDone (s : State) : State :=
  let t := if s.dec.k = 0 then s else afterChar (keyChar s.dec.key) s
  { t with ctl := { t.ctl with run := .done } }

/-! ### Invariants -/

/-- The two clauses of R29 (c), as the rule writes them. -/
def R29c (s : State) : Prop :=
  s.sync.ph ≠ .extract →
    s.sync.pos = 0 ∧ s.sync.w = .seven ∧ s.sync.acc = 0 ∧ (s.cfg.src ≠ .bits → s.cnt.nbit = 0)

/-- What holds between any two commands: (a) to (h) of R29, and the bounds of R24, R26, R20, R185 and R213 that carry
them from one command to the next. R29 (c)'s clause on `nbit` is given in `IDLE`, `RUN` and `ERR`; in `DONE`, where R183
lets `CFG` change `MODE.SRC` under it, it is given with the source of the finished run (log entry 10). -/
structure Inv (s : State) : Prop where
  /-- R29 (a). -/
  err_iff : s.ctl.err ≠ .none ↔ s.ctl.run = .err
  /-- R29 (b). -/
  nsym_eq : s.cnt.nsym = s.str.tapSym.length
  /-- R29 (b). -/
  nbit_eq : s.cnt.nbit = s.str.tapBit.length
  /-- R29 (b). -/
  nchar_eq : s.cnt.nchar = s.str.out.length
  /-- R29 (c), first clause. -/
  unsynced : s.sync.ph ≠ .extract → s.sync.pos = 0 ∧ s.sync.w = .seven ∧ s.sync.acc = 0
  /-- R29 (c), second clause, in `IDLE`, `RUN` and `ERR`. -/
  unsynced_nbit : s.ctl.run ≠ .done → s.cfg.src ≠ .bits → s.sync.ph ≠ .extract → s.cnt.nbit = 0
  /-- R29 (c), second clause, in `DONE`: only a finished `BITS` run, which took no Symbol (R188), is unsynchronised. -/
  unsynced_done : s.ctl.run = .done → s.sync.ph ≠ .extract → s.sync.ph = .seekMark ∧ s.cnt.nsym = 0
  /-- R16, R32: `IDLE` is the state after reset, before any run: nothing but the configuration, `rej` and `rdata` has
  changed. -/
  idle_clear : s.ctl.run = .idle →
    s.tone = .reset ∧ s.sync = .reset ∧ s.dec = .reset ∧ s.cnt = .reset ∧ s.str = .reset
  /-- R29 (d). -/
  no_bits : s.cnt.nbit = 0 → s.dec.k = 0 ∧ s.dec.key = [] ∧ s.str.out = []
  /-- R29 (e). -/
  err_empty : s.ctl.run = .err → s.str.out = [] ∧ s.cnt.nbit = 0
  /-- R29 (f). -/
  chunk_grid : s.ctl.run = .run → s.dec.k = s.cnt.nbit % 8 ∧ s.cnt.nchar = s.cnt.nbit / 8
  /-- R29 (g). -/
  window_grid : s.sync.ph = .extract →
    s.sync.w = (if s.cnt.nbit % 2 = 0 then .seven else .eight)
      ∧ s.cnt.nsym = s.sync.anchor + windowSpan s.cnt.nbit + s.sync.pos
  /-- R29 (h). -/
  frame_open : s.ctl.run = .run → s.cfg.src = .samples → (s.tone.n : Int) < frameSize s
  /-- R24: `0 ≤ pos < W`. -/
  pos_lt : s.sync.pos < windowLength s.sync.w
  /-- R24: `acc` counts at most the voted positions already passed, so `acc ≤ 5`. -/
  acc_le : s.sync.acc ≤ s.sync.pos - 1 ∧ s.sync.acc ≤ 5
  /-- R26: `k ≤ 7` and `len(key) = min(max(k − 1, 0), 5)`. -/
  key_length : s.dec.k ≤ 7 ∧ s.dec.key.length = min (s.dec.k - 1) 5
  /-- R188: the synchronizer is idle in a `BITS` run. -/
  bits_idle : s.ctl.run = .run → s.cfg.src = .bits → s.sync.ph = .seekMark ∧ s.cnt.nsym = 0
  /-- R200: before the first sample of a run nothing has been processed. -/
  unseen : s.ctl.run = .run → s.cfg.src = .samples → s.tone.seen = b0 →
    s.tone.n = 0 ∧ s.cnt.nsym = 0 ∧ s.cnt.nbit = 0
  /-- R185 steps 2 and 3: an open sample run has every value it needs. -/
  values : s.ctl.run = .run → s.cfg.src = .samples →
    s.cfg.coeffMark ≠ none ∧ s.cfg.coeffSpace ≠ none ∧ (s.cfg.abs = b1 → s.cfg.thresh ≠ none)
  /-- R213: after `DONE` no chunk is open and every chunk has its character. -/
  done_chars : s.ctl.run = .done → s.dec.k = 0 ∧ s.cnt.nchar = ceilDiv s.cnt.nbit 8

end Sys2Proof.Machine
end

