-- ==== Sys2Proof/Certificates/Slice0/Obligations.lean ====
section
/-!
DEFINITION. The statements for the provers, def Obligations.<Name> : Prop. Results are written in the closed forms of
Sys2Proof/Safety.lean; the group `env` is the model's own, so where a result names it that is the model's choice (log
entries 2, 4, 5, 9).
-/

open Sys2Proof Sys2Proof.Machine

/-! ### Step, decoding and encoding -/

/-- R180: a step decodes the oldest stimulus and runs its instruction. What stands around `exec` is the model's port: the
stimulus leaves it and the count of inputs goes up (log entries 2 and 4). -/
def Obligations.StepRunsTheDecodedInstruction : Prop :=
  ∀ (s : State) (x : Stimulus) (rest : List Input) (i : Instr),
    s.env.pending = .item x :: rest → decode x = .ok i →
      step s = exec i { s with env := { s.env with pending := rest, free := s.env.free + 1 } }

/-- R219, R180 and R230 in the model's port (log entries 4, 9, 11): with nothing at the port the block holds its state; the
reset input gives the reset state; a stimulus in no format is refused by name. -/
def Obligations.StepWithoutAnInstruction : Prop :=
  (∀ s : State, s.env.pending = [] → step s = .next s)
  ∧ (∀ (s : State) (rest : List Input), s.env.pending = .resetPin :: rest →
      step s = .next { State.reset with env := { pending := rest, fbxOut := none, free := s.env.free + 1 } })
  ∧ (∀ (s : State) (x : Stimulus) (rest : List Input) (e : DecodeError),
      s.env.pending = .item x :: rest → decode x = .error e → step s = .refused (.malformed e))

/-- Words written out from R61 to R66 and spec/95_test_vectors.md section 2.1. -/
def Obligations.WrittenWordsDecodeToTheirInstructions : Prop :=
  decode (.cmd 0x0000000000) = .ok .nop
  ∧ decode (.cmd 0x100000000C) = .ok (.cfgFrameSize 12)
  ∧ decode (.cmd 0x11FFFFCDD1) = .ok (.cfgCoeffMark 0xFFFFCDD1)
  ∧ decode (.cmd 0x1300000004) = .ok (.cfgMode b0 2)
  ∧ decode (.cmd 0x1800000000) = .ok .cfgStatus
  ∧ decode (.cmd 0x2ABCDEF012) = .ok .start
  ∧ decode (.cmd 0x30FFFF8000) = .ok (.sample 0xFFFF8000)
  ∧ decode (.cmd 0x4F00000003) = .ok (.sym b1)
  ∧ decode (.cmd 0x4F00000002) = .ok (.sym b0)
  ∧ decode (.cmd 0x6000000000) = .ok .endRun
  ∧ decode (.cmd 0x7C00000000) = .ok .rdSyncAnchor
  ∧ decode (.cmd 0xEFFFFFFFFF) = .ok .reservedOpE
  ∧ decode (.cmd 0xF000000000) = .ok .rst
  ∧ decode (.flags 0b10) = .ok .fbx10
  ∧ decode (.window [b0, b1, b1, b1, b0, b0, b0]) = .ok (.syncExtractW7 [b0, b1, b1, b1, b0, b0, b0])
  ∧ decode (.charFrame [b0, b0, b1, b0, b1, b0, b1, b1]) = .ok (.codeR b0 (some b1) (some b1))
  ∧ decode (.charFrame [b0, b0, b1, b0, b1, b0]) = .ok (.codeR b0 none none)
  ∧ decode (.charFrame [b1, b0, b1, b0, b1, b0, b0]) = .ok (.codeR b1 (some b0) none)
  ∧ decode (.charFrame [b1]) = .ok (.codeShort1 [b1])

/-- Decode and encode agree, for every instruction of every format (R60 to R66). -/
def Obligations.DecodeOfEncodeIsTheInstruction : Prop :=
  ∀ i : Instr, i.wellFormed = true → decode (encode i) = .ok i

/-- R62 with the register indices of R30 and the payload readings of R63: `op`, and `reg` for `CFG` and `RD`, decide the
operation; every other field a command does not use is ignored (R61). -/
def Obligations.CommandWordsDecodeByOpAndRegister : Prop :=
  (∀ w : CmdWord, ∃ (op reg : BitVec 4) (d : Word32), w = op ++ reg ++ d)
  ∧ ∀ (reg : BitVec 4) (d : Word32),
    decode (.cmd (0x0#4 ++ reg ++ d)) = .ok .nop
    ∧ decode (.cmd (0x2#4 ++ reg ++ d)) = .ok .start
    ∧ decode (.cmd (0x3#4 ++ reg ++ d)) = .ok (.sample d)
    ∧ decode (.cmd (0x4#4 ++ reg ++ d)) = .ok (.sym (d.getLsbD 0))
    ∧ decode (.cmd (0x5#4 ++ reg ++ d)) = .ok (.bit (d.getLsbD 0))
    ∧ decode (.cmd (0x6#4 ++ reg ++ d)) = .ok .endRun
    ∧ decode (.cmd (0x8#4 ++ reg ++ d)) = .ok .reservedOp8
    ∧ decode (.cmd (0x9#4 ++ reg ++ d)) = .ok .reservedOp9
    ∧ decode (.cmd (0xA#4 ++ reg ++ d)) = .ok .reservedOpA
    ∧ decode (.cmd (0xB#4 ++ reg ++ d)) = .ok .reservedOpB
    ∧ decode (.cmd (0xC#4 ++ reg ++ d)) = .ok .reservedOpC
    ∧ decode (.cmd (0xD#4 ++ reg ++ d)) = .ok .reservedOpD
    ∧ decode (.cmd (0xE#4 ++ reg ++ d)) = .ok .reservedOpE
    ∧ decode (.cmd (0xF#4 ++ reg ++ d)) = .ok .rst
    ∧ decode (.cmd (0x1#4 ++ 0x0#4 ++ d)) = .ok (.cfgFrameSize d)
    ∧ decode (.cmd (0x1#4 ++ 0x1#4 ++ d)) = .ok (.cfgCoeffMark d)
    ∧ decode (.cmd (0x1#4 ++ 0x2#4 ++ d)) = .ok (.cfgCoeffSpace d)
    ∧ decode (.cmd (0x1#4 ++ 0x3#4 ++ d)) = .ok (.cfgMode (d.getLsbD 0) (d.extractLsb' 1 2))
    ∧ decode (.cmd (0x1#4 ++ 0x4#4 ++ d)) = .ok (.cfgThresh d)
    ∧ decode (.cmd (0x1#4 ++ 0x5#4 ++ d)) = .ok .cfgReserved5
    ∧ decode (.cmd (0x1#4 ++ 0x6#4 ++ d)) = .ok .cfgReserved6
    ∧ decode (.cmd (0x1#4 ++ 0x7#4 ++ d)) = .ok .cfgReserved7
    ∧ decode (.cmd (0x1#4 ++ 0x8#4 ++ d)) = .ok .cfgStatus
    ∧ decode (.cmd (0x1#4 ++ 0x9#4 ++ d)) = .ok .cfgSymbolCount
    ∧ decode (.cmd (0x1#4 ++ 0xA#4 ++ d)) = .ok .cfgBitCount
    ∧ decode (.cmd (0x1#4 ++ 0xB#4 ++ d)) = .ok .cfgCharCount
    ∧ decode (.cmd (0x1#4 ++ 0xC#4 ++ d)) = .ok .cfgSyncAnchor
    ∧ decode (.cmd (0x1#4 ++ 0xD#4 ++ d)) = .ok .cfgReservedD
    ∧ decode (.cmd (0x1#4 ++ 0xE#4 ++ d)) = .ok .cfgReservedE
    ∧ decode (.cmd (0x1#4 ++ 0xF#4 ++ d)) = .ok .cfgReservedF
    ∧ decode (.cmd (0x7#4 ++ 0x0#4 ++ d)) = .ok .rdFrameSize
    ∧ decode (.cmd (0x7#4 ++ 0x1#4 ++ d)) = .ok .rdCoeffMark
    ∧ decode (.cmd (0x7#4 ++ 0x2#4 ++ d)) = .ok .rdCoeffSpace
    ∧ decode (.cmd (0x7#4 ++ 0x3#4 ++ d)) = .ok .rdMode
    ∧ decode (.cmd (0x7#4 ++ 0x4#4 ++ d)) = .ok .rdThresh
    ∧ decode (.cmd (0x7#4 ++ 0x5#4 ++ d)) = .ok .rdReserved5
    ∧ decode (.cmd (0x7#4 ++ 0x6#4 ++ d)) = .ok .rdReserved6
    ∧ decode (.cmd (0x7#4 ++ 0x7#4 ++ d)) = .ok .rdReserved7
    ∧ decode (.cmd (0x7#4 ++ 0x8#4 ++ d)) = .ok .rdStatus
    ∧ decode (.cmd (0x7#4 ++ 0x9#4 ++ d)) = .ok .rdSymbolCount
    ∧ decode (.cmd (0x7#4 ++ 0xA#4 ++ d)) = .ok .rdBitCount
    ∧ decode (.cmd (0x7#4 ++ 0xB#4 ++ d)) = .ok .rdCharCount
    ∧ decode (.cmd (0x7#4 ++ 0xC#4 ++ d)) = .ok .rdSyncAnchor
    ∧ decode (.cmd (0x7#4 ++ 0xD#4 ++ d)) = .ok .rdReservedD
    ∧ decode (.cmd (0x7#4 ++ 0xE#4 ++ d)) = .ok .rdReservedE
    ∧ decode (.cmd (0x7#4 ++ 0xF#4 ++ d)) = .ok .rdReservedF

/-- R180: the step is total on command words: whatever the state, a 40-bit word at the port has a next state. -/
def Obligations.EveryCommandWordHasANextState : Prop :=
  ∀ (s : State) (w : CmdWord) (rest : List Input), s.env.pending = .item (.cmd w) :: rest →
    ∃ t, step s = .next t ∧ t.env.pending = rest

/-! ### Reset, NOP and refusal -/

/-- R32: the value of every element after reset. -/
def Obligations.ResetStateHoldsTheTableValues : Prop :=
  State.reset.cfg
      = { frameSize := 128, coeffMark := none, coeffSpace := none, abs := b0, src := .samples, thresh := none }
  ∧ State.reset.ctl = { run := .idle, err := .none, rej := b0, rdata := 0 }
  ∧ State.reset.tone = { n := 0, seen := b0, mark := { s1 := 0, s2 := 0 }, space := { s1 := 0, s2 := 0 },
                         markPresent := b0, spacePresent := b0 }
  ∧ State.reset.sync = { ph := .seekMark, pos := 0, w := .seven, acc := 0, anchor := 0 }
  ∧ State.reset.dec = { k := 0, key := [] }
  ∧ State.reset.cnt = { nsym := 0, nbit := 0, nchar := 0 }
  ∧ State.reset.str = { out := [], tapSym := [], tapBit := [] }

/-- R181: `RST` gives every state element of the spec its reset value, in every state (so does the hardware reset input, in
`StepWithoutAnInstruction`); a `RD STATUS` after it reads 0. What `env` keeps is in `ResetKeepsTheInputsStillWaiting`. -/
def Obligations.RstRestoresTheResetState : Prop :=
  (∀ (reg : BitVec 4) (d : Word32), decode (.cmd (0xF#4 ++ reg ++ d)) = .ok .rst)
  ∧ ∀ s : State, ∃ t, exec .rst s = .next t
    ∧ t.cfg = State.reset.cfg ∧ t.ctl = State.reset.ctl ∧ t.tone = State.reset.tone ∧ t.sync = State.reset.sync
    ∧ t.dec = State.reset.dec ∧ t.cnt = State.reset.cnt ∧ t.str = State.reset.str
    ∧ ∃ v, exec .rdStatus t = .next v ∧ v.ctl.rdata = 0

/-- The model's choice (log entry 9): reset keeps the inputs that still wait and their count, and drops the `FBX` result;
with `RstRestoresTheResetState` this is the whole next state. -/
def Obligations.ResetKeepsTheInputsStillWaiting : Prop :=
  ∀ s : State, exec .rst s = .next { State.reset with env := { s.env with fbxOut := none } }

/-- R182: `NOP` changes nothing, `rej` included, in every state. -/
def Obligations.NopChangesNothing : Prop :=
  (∀ (reg : BitVec 4) (d : Word32), decode (.cmd (0x0#4 ++ reg ++ d)) = .ok .nop)
  ∧ ∀ s : State, exec .nop s = .next s

/-- R190: the reserved operations are refused in every state; `run` and `err` do not change. -/
def Obligations.ReservedOperationsAreRefused : Prop :=
  (∀ (reg : BitVec 4) (d : Word32),
    decode (.cmd (0x8#4 ++ reg ++ d)) = .ok .reservedOp8 ∧ decode (.cmd (0x9#4 ++ reg ++ d)) = .ok .reservedOp9
    ∧ decode (.cmd (0xA#4 ++ reg ++ d)) = .ok .reservedOpA ∧ decode (.cmd (0xB#4 ++ reg ++ d)) = .ok .reservedOpB
    ∧ decode (.cmd (0xC#4 ++ reg ++ d)) = .ok .reservedOpC ∧ decode (.cmd (0xD#4 ++ reg ++ d)) = .ok .reservedOpD
    ∧ decode (.cmd (0xE#4 ++ reg ++ d)) = .ok .reservedOpE)
  ∧ ∀ s : State,
    exec .reservedOp8 s = .next (afterRefusal s) ∧ exec .reservedOp9 s = .next (afterRefusal s)
    ∧ exec .reservedOpA s = .next (afterRefusal s) ∧ exec .reservedOpB s = .next (afterRefusal s)
    ∧ exec .reservedOpC s = .next (afterRefusal s) ∧ exec .reservedOpD s = .next (afterRefusal s)
    ∧ exec .reservedOpE s = .next (afterRefusal s)

/-- R210 over the legality table of R193 and the further conditions of R183, R185: a command that is not accepted changes
`rej` and nothing else. -/
def Obligations.RefusedCommandsSetRejAndNothingElse : Prop :=
  ∀ (i : Instr) (s : State), i.isCommand = true → accepted i s = false →
    exec i s = .next { s with ctl := { s.ctl with rej := b1 } }

/-- R18, R250: `rej` is set by a refusal and by nothing else, and cleared by an accepted `START` and by `RST` alone. -/
def Obligations.RejIsSetByRefusalAndStaysUntilStartOrReset : Prop :=
  ∀ (i : Instr) (s t : State), i.isCommand = true → exec i s = .next t →
    (accepted i s = false → t.ctl.rej = b1)
    ∧ (accepted i s = true → i = .start ∨ i = .rst → t.ctl.rej = b0)
    ∧ (accepted i s = true → i ≠ .start → i ≠ .rst → t.ctl.rej = s.ctl.rej)

/-! ### CFG and RD -/

/-- R183: the five writable registers, written outside `RUN`; every other `CFG`, and every `CFG` in `RUN`, refused. -/
def Obligations.CfgWritesOrIsRefused : Prop :=
  ∀ (s : State) (d : Word32) (abs : Bit),
    (s.ctl.run ≠ .run →
      exec (.cfgFrameSize d) s = .next { s with cfg := { s.cfg with frameSize := d } }
      ∧ exec (.cfgCoeffMark d) s = .next { s with cfg := { s.cfg with coeffMark := some d } }
      ∧ exec (.cfgCoeffSpace d) s = .next { s with cfg := { s.cfg with coeffSpace := some d } }
      ∧ exec (.cfgThresh d) s = .next { s with cfg := { s.cfg with thresh := some d } }
      ∧ exec (.cfgMode abs 0) s = .next { s with cfg := { s.cfg with abs := abs, src := .samples } }
      ∧ exec (.cfgMode abs 1) s = .next { s with cfg := { s.cfg with abs := abs, src := .symbols } }
      ∧ exec (.cfgMode abs 2) s = .next { s with cfg := { s.cfg with abs := abs, src := .bits } })
    ∧ (s.ctl.run = .run →
      exec (.cfgFrameSize d) s = .next (afterRefusal s)
      ∧ exec (.cfgCoeffMark d) s = .next (afterRefusal s)
      ∧ exec (.cfgCoeffSpace d) s = .next (afterRefusal s)
      ∧ exec (.cfgThresh d) s = .next (afterRefusal s)
      ∧ ∀ src, exec (.cfgMode abs src) s = .next (afterRefusal s))
    ∧ exec (.cfgMode abs 3) s = .next (afterRefusal s)
    ∧ exec .cfgReserved5 s = .next (afterRefusal s) ∧ exec .cfgReserved6 s = .next (afterRefusal s)
    ∧ exec .cfgReserved7 s = .next (afterRefusal s) ∧ exec .cfgStatus s = .next (afterRefusal s)
    ∧ exec .cfgSymbolCount s = .next (afterRefusal s) ∧ exec .cfgBitCount s = .next (afterRefusal s)
    ∧ exec .cfgCharCount s = .next (afterRefusal s) ∧ exec .cfgSyncAnchor s = .next (afterRefusal s)
    ∧ exec .cfgReservedD s = .next (afterRefusal s) ∧ exec .cfgReservedE s = .next (afterRefusal s)
    ∧ exec .cfgReservedF s = .next (afterRefusal s)

/-- R183 on the command word: which register a `CFG` writes, with the payload readings of R63, or its refusal. -/
def Obligations.CfgWordFollowsItsRule : Prop :=
  ∀ (s : State) (reg : BitVec 4) (d : Word32), ∃ i, decode (.cmd (0x1#4 ++ reg ++ d)) = .ok i
    ∧ (s.ctl.run = .run → exec i s = .next (afterRefusal s))
    ∧ (s.ctl.run ≠ .run →
      (reg = 0 → ∃ t, exec i s = .next t ∧ t = { s with cfg := { s.cfg with frameSize := d } } ∧ frameSize t = d.toInt)
      ∧ (reg = 1 → ∃ t, exec i s = .next t ∧ t = { s with cfg := { s.cfg with coeffMark := some d } }
          ∧ coeff .mark t = (d.toInt : NumQ) / 65536)
      ∧ (reg = 2 → ∃ t, exec i s = .next t ∧ t = { s with cfg := { s.cfg with coeffSpace := some d } }
          ∧ coeff .space t = (d.toInt : NumQ) / 65536)
      ∧ (reg = 3 →
          (d.extractLsb' 1 2 = 3 → exec i s = .next (afterRefusal s))
          ∧ (d.extractLsb' 1 2 = 0 →
              exec i s = .next { s with cfg := { s.cfg with abs := d.getLsbD 0, src := .samples } })
          ∧ (d.extractLsb' 1 2 = 1 →
              exec i s = .next { s with cfg := { s.cfg with abs := d.getLsbD 0, src := .symbols } })
          ∧ (d.extractLsb' 1 2 = 2 →
              exec i s = .next { s with cfg := { s.cfg with abs := d.getLsbD 0, src := .bits } }))
      ∧ (reg = 4 → ∃ t, exec i s = .next t ∧ t = { s with cfg := { s.cfg with thresh := some d } }
          ∧ threshold t = (d.toInt : NumQ) / 65536)
      ∧ (5 ≤ reg.toNat → exec i s = .next (afterRefusal s)))

/-- R63, R8: the numbers that stand in the configuration registers as words (the words are the model's representation, log
entry 8): two's complement for `FRAME_SIZE`, two's complement over 65536 for the others. -/
def Obligations.RegisterWordsAreReadAsTheirNumbers : Prop :=
  ∀ (s : State) (w : Word32),
    (s.cfg.frameSize = w → frameSize s = if w.toNat < 2 ^ 31 then (w.toNat : Int) else (w.toNat : Int) - 2 ^ 32)
    ∧ (s.cfg.coeffMark = some w →
        coeff .mark s * 65536 = if w.toNat < 2 ^ 31 then (w.toNat : NumQ) else (w.toNat : NumQ) - 2 ^ 32)
    ∧ (s.cfg.coeffSpace = some w →
        coeff .space s * 65536 = if w.toNat < 2 ^ 31 then (w.toNat : NumQ) else (w.toNat : NumQ) - 2 ^ 32)
    ∧ (s.cfg.thresh = some w →
        threshold s * 65536 = if w.toNat < 2 ^ 31 then (w.toNat : NumQ) else (w.toNat : NumQ) - 2 ^ 32)

/-- R30, R184: what `RD` of each register reads; only `rdata` changes, in every state. What `STATUS` reads is in
`RdStatusPacksTheStatusFields`; for `k` or `pos` above 7, in states no run reaches, the word is the model's choice (log
entry 13). -/
def Obligations.RdReadsTheNamedRegister : Prop :=
  ∀ s : State,
    exec .rdFrameSize s = .next (afterRead s.cfg.frameSize s)
    ∧ exec .rdCoeffMark s = .next (afterRead (s.cfg.coeffMark.getD 0) s)
    ∧ exec .rdCoeffSpace s = .next (afterRead (s.cfg.coeffSpace.getD 0) s)
    ∧ exec .rdMode s = .next (afterRead
        (BitVec.ofNat 32 ((if s.cfg.abs = b1 then 1 else 0)
          + (match s.cfg.src with | .samples => 0 | .symbols => 2 | .bits => 4))) s)
    ∧ exec .rdThresh s = .next (afterRead (s.cfg.thresh.getD 0) s)
    ∧ exec .rdSymbolCount s = .next (afterRead (BitVec.ofNat 32 (s.cnt.nsym % 2 ^ 32)) s)
    ∧ exec .rdBitCount s = .next (afterRead (BitVec.ofNat 32 (s.cnt.nbit % 2 ^ 32)) s)
    ∧ exec .rdCharCount s = .next (afterRead (BitVec.ofNat 32 (s.cnt.nchar % 2 ^ 32)) s)
    ∧ exec .rdSyncAnchor s = .next (afterRead (BitVec.ofNat 32 (s.sync.anchor % 2 ^ 32)) s)
    ∧ exec .rdReserved5 s = .next (afterRead 0 s) ∧ exec .rdReserved6 s = .next (afterRead 0 s)
    ∧ exec .rdReserved7 s = .next (afterRead 0 s) ∧ exec .rdReservedD s = .next (afterRead 0 s)
    ∧ exec .rdReservedE s = .next (afterRead 0 s) ∧ exec .rdReservedF s = .next (afterRead 0 s)
    ∧ ∃ v, exec .rdStatus s = .next (afterRead v s)

/-- R184 on the command word, with the read values of R30: `RD` is never refused and changes nothing but `rdata`. What
`STATUS` reads is in `RdStatusPacksTheStatusFields`. -/
def Obligations.RdWordFollowsItsRule : Prop :=
  ∀ (s : State) (reg : BitVec 4) (d : Word32), ∃ i v,
    decode (.cmd (0x7#4 ++ reg ++ d)) = .ok i ∧ exec i s = .next (afterRead v s)
    ∧ (reg = 0 → v = s.cfg.frameSize)
    ∧ (reg = 1 → v = s.cfg.coeffMark.getD 0)
    ∧ (reg = 2 → v = s.cfg.coeffSpace.getD 0)
    ∧ (reg = 3 → v.getLsbD 0 = s.cfg.abs ∧ v.extractLsb' 1 2 = srcCode s.cfg.src ∧ v.toNat < 8)
    ∧ (reg = 4 → v = s.cfg.thresh.getD 0)
    ∧ (reg = 8 → i = .rdStatus)
    ∧ (reg = 9 → v.toNat = s.cnt.nsym % 2 ^ 32)
    ∧ (reg = 10 → v.toNat = s.cnt.nbit % 2 ^ 32)
    ∧ (reg = 11 → v.toNat = s.cnt.nchar % 2 ^ 32)
    ∧ (reg = 12 → v.toNat = s.sync.anchor % 2 ^ 32)
    ∧ (5 ≤ reg.toNat ∧ reg.toNat ≤ 7 ∨ 13 ≤ reg.toNat → v = 0)

/-- R31: the `STATUS` word, each field at its place; `k` and `pos` in the range R24, R26 give them. -/
def Obligations.RdStatusPacksTheStatusFields : Prop :=
  ∀ s : State, s.dec.k < 8 → s.sync.pos < 8 →
    exec .rdStatus s = .next (afterRead
      (BitVec.ofNat 32
        ((match s.ctl.run with | .idle => 0 | .run => 1 | .done => 2 | .err => 3)
        + 4 * (match s.ctl.err with | .none => 0 | .invalidFrameSize => 1 | .syncNotFound => 2)
        + (if s.ctl.rej = b1 then 2 ^ 4 else 0)
        + (if s.sync.ph = .extract then 2 ^ 5 else 0)
        + (if s.sync.w = .eight then 2 ^ 6 else 0)
        + (if s.cfg.coeffMark ≠ none then 2 ^ 7 else 0)
        + (if s.cfg.coeffSpace ≠ none then 2 ^ 8 else 0)
        + (if s.cfg.thresh ≠ none then 2 ^ 9 else 0)
        + (if s.tone.markPresent = b1 then 2 ^ 10 else 0)
        + (if s.tone.spacePresent = b1 then 2 ^ 11 else 0)
        + 2 ^ 12 * s.dec.k
        + 2 ^ 15 * s.sync.pos
        + (if s.sync.ph = .seekSpace then 2 ^ 18 else 0))) s)

/-! ### START, the input commands and END -/

/-- R185: `START`, its refusals before anything is cleared, `InvalidFrameSize`, or an open run (R33 for what is cleared). -/
def Obligations.StartFollowsItsNumberedSteps : Prop :=
  (∀ (reg : BitVec 4) (d : Word32), decode (.cmd (0x2#4 ++ reg ++ d)) = .ok .start)
  ∧ ∀ s : State,
    (s.ctl.run = .run → exec .start s = .next (afterRefusal s))
    ∧ (s.cfg.src = .samples → (s.cfg.coeffMark = none ∨ s.cfg.coeffSpace = none) →
        exec .start s = .next (afterRefusal s))
    ∧ (s.cfg.src = .samples → s.cfg.abs = b1 → s.cfg.thresh = none → exec .start s = .next (afterRefusal s))
    ∧ (s.ctl.run ≠ .run → s.cfg.src = .samples → s.cfg.coeffMark ≠ none → s.cfg.coeffSpace ≠ none →
        (s.cfg.abs = b1 → s.cfg.thresh ≠ none) →
        (s.cfg.frameSize.toInt ≤ 0 → exec .start s = .next (afterStart .err .invalidFrameSize s))
        ∧ (0 < s.cfg.frameSize.toInt → exec .start s = .next (afterStart .run .none s)))
    ∧ (s.ctl.run ≠ .run → s.cfg.src ≠ .samples → exec .start s = .next (afterStart .run .none s))

/-- R186, R85, R86: `SAMPLE` in an open sample run feeds both channels `q16(data)` and closes the frame it fills;
otherwise it is refused; at most one Symbol, one BaudotBit and one character result. -/
def Obligations.SampleFeedsBothChannels : Prop :=
  (∀ (reg : BitVec 4) (d : Word32), decode (.cmd (0x3#4 ++ reg ++ d)) = .ok (.sample d))
  ∧ ∀ (s : State) (d : Word32),
    (s.ctl.run = .run ∧ s.cfg.src = .samples →
      exec (.sample d) s = .next (afterSample ((d.toInt : NumQ) / 65536) s))
    ∧ (¬(s.ctl.run = .run ∧ s.cfg.src = .samples) → exec (.sample d) s = .next (afterRefusal s))
    ∧ ∀ t, exec (.sample d) s = .next t →
        t.str.tapSym.length ≤ s.str.tapSym.length + 1 ∧ t.str.tapBit.length ≤ s.str.tapBit.length + 1
        ∧ t.str.out.length ≤ s.str.out.length + 1

/-- R187: `SYM` in an open symbol run counts the Symbol and gives it to the synchronizer; otherwise it is refused. -/
def Obligations.SymFeedsTheSynchronizer : Prop :=
  (∀ (reg : BitVec 4) (d : Word32), decode (.cmd (0x4#4 ++ reg ++ d)) = .ok (.sym (d.getLsbD 0)))
  ∧ ∀ (s : State) (b : Bit),
    (s.ctl.run = .run ∧ s.cfg.src = .symbols → exec (.sym b) s = .next (afterSym b s))
    ∧ (¬(s.ctl.run = .run ∧ s.cfg.src = .symbols) → exec (.sym b) s = .next (afterRefusal s))

/-- R188: `BIT` in an open bit run counts the BaudotBit and gives it to the decoder; otherwise it is refused. The
synchronizer is untouched and is not consulted at `END`. -/
def Obligations.BitFeedsTheDecoder : Prop :=
  (∀ (reg : BitVec 4) (d : Word32), decode (.cmd (0x5#4 ++ reg ++ d)) = .ok (.bit (d.getLsbD 0)))
  ∧ ∀ (s : State) (b : Bit),
    (s.ctl.run = .run ∧ s.cfg.src = .bits → exec (.bit b) s = .next (afterBit b s))
    ∧ (¬(s.ctl.run = .run ∧ s.cfg.src = .bits) → exec (.bit b) s = .next (afterRefusal s))
    ∧ (afterBit b s).sync = s.sync
    ∧ (s.ctl.run = .run ∧ s.cfg.src = .bits → exec .endRun s = .next (afterDone s))

/-- R189 (with R119, R138, R87): `END`, its steps in order. In the third clause `u` is the state once the short final
frame, if any, is closed. -/
def Obligations.EndFollowsItsNumberedSteps : Prop :=
  (∀ (reg : BitVec 4) (d : Word32), decode (.cmd (0x6#4 ++ reg ++ d)) = .ok .endRun)
  ∧ ∀ s : State,
    (s.ctl.run ≠ .run → exec .endRun s = .next (afterRefusal s))
    ∧ (s.ctl.run = .run → s.cfg.src = .samples → s.tone.seen = b0 →
        exec .endRun s = .next (afterError .invalidFrameSize s))
    ∧ (s.ctl.run = .run → s.cfg.src = .samples → s.tone.seen = b1 →
        ∀ u, u = (if 0 < s.tone.n then afterFrame s else s) →
          (u.sync.ph = .extract → exec .endRun s = .next (afterDone u))
          ∧ (u.sync.ph ≠ .extract → exec .endRun s = .next (afterError .syncNotFound u)))
    ∧ (s.ctl.run = .run → s.cfg.src = .symbols →
        (s.sync.ph = .extract → exec .endRun s = .next (afterDone s))
        ∧ (s.sync.ph ≠ .extract → exec .endRun s = .next (afterError .syncNotFound s)))
    ∧ (s.ctl.run = .run → s.cfg.src = .bits → exec .endRun s = .next (afterDone s))

/-! ### The rows inside the block, run by themselves (log entry 3) -/

/-- R85, R86 for the rows `GSTEP` and `FCLOSE`, in every state. -/
def Obligations.GstepAndFcloseRowsComplete : Prop :=
  ∀ (s : State) (x : NumQ),
    exec (.gstep x) s = .next (afterSample x s) ∧ exec .fclose s = .next (afterFrame s)

/-- R100: the Symbol is the mark flag and no state of the block changes. Where the result is shown is the model's choice
(log entry 5). -/
def Obligations.FbxRowsReturnTheMarkFlag : Prop :=
  ∀ s : State,
    exec .fbx00 s = .next { s with env := { s.env with fbxOut := some b0 } }
    ∧ exec .fbx01 s = .next { s with env := { s.env with fbxOut := some b0 } }
    ∧ exec .fbx10 s = .next { s with env := { s.env with fbxOut := some b1 } }
    ∧ exec .fbx11 s = .next { s with env := { s.env with fbxOut := some b1 } }

/-- R115, R116: the two scans of Phase A. -/
def Obligations.SeekRowsMoveThePhase : Prop :=
  ∀ s : State,
    exec (.syncSeekMark b0) s = .next s
    ∧ exec (.syncSeekMark b1) s = .next { s with sync := { s.sync with ph := .seekSpace } }
    ∧ exec (.syncSeekSpace b1) s = .next s
    ∧ exec (.syncSeekSpace b0) s
        = .next { s with sync := { s.sync with ph := .extract, anchor := s.cnt.nsym } }

/-- R114 with R115 to R118: one Symbol into the synchronizer, and R119: the check at the end of the input. -/
def Obligations.SyncStepAndSyncEndRowsComplete : Prop :=
  ∀ (s : State) (b : Bit),
    exec (.syncStep b) s = .next (afterSymbol b s)
    ∧ (s.sync.ph = .extract → exec .syncEnd s = .next s)
    ∧ (s.sync.ph ≠ .extract → exec .syncEnd s = .next (afterError .syncNotFound s))

/-- R117, R113, R65: a whole window, from its position 0, emits the majority of its positions 1 to 5 and flips `W`; the
symbols at positions 0, 6 and 7 have no effect. -/
def Obligations.WindowRowsEmitTheMajority : Prop :=
  ∀ (s : State) (x0 x1 x2 x3 x4 x5 x6 x7 : Bit), s.sync.pos = 0 → s.sync.acc = 0 →
    (s.sync.w = .seven →
      exec (.syncExtractW7 [x0, x1, x2, x3, x4, x5, x6]) s
        = .next (afterBit (decide (3 ≤ bitNat x1 + bitNat x2 + bitNat x3 + bitNat x4 + bitNat x5))
            { s with sync := { s.sync with pos := 0, acc := 0, w := .eight } }))
    ∧ (s.sync.w = .eight →
      exec (.syncExtractW8 [x0, x1, x2, x3, x4, x5, x6, x7]) s
        = .next (afterBit (decide (3 ≤ bitNat x1 + bitNat x2 + bitNat x3 + bitNat x4 + bitNat x5))
            { s with sync := { s.sync with pos := 0, acc := 0, w := .seven } }))

/-- R136, R137, R138: the decoder's operations, in every state. -/
def Obligations.DecoderRowsPushEmitAndFlush : Prop :=
  ∀ (s : State) (b : Bit),
    exec (.decPush b) s = .next (afterPush b s)
    ∧ exec .decEmit s = .next (afterChar (keyChar s.dec.key) s)
    ∧ (s.dec.k = 0 → exec .decFlush s = .next s)
    ∧ (1 ≤ s.dec.k → exec .decFlush s = .next (afterChar (keyChar s.dec.key) s))

/-- R141 to R150: each frame emits the byte of its rule, whatever its start and stop bits, and whether or not the stop bits
have arrived. That the frame is the operand of a row run by itself is log entry 6. -/
def Obligations.CodeRowsNulToIEmitTheirByte : Prop :=
  ∀ (s : State) (a : Bit) (y z : Option Bit),
    exec (.codeNul a y z) s = .next (afterChar 0x00 s)
    ∧ exec (.codeSpace a y z) s = .next (afterChar 0x20 s)
    ∧ exec (.codeQ a y z) s = .next (afterChar 0x51 s)
    ∧ exec (.codeW a y z) s = .next (afterChar 0x57 s)
    ∧ exec (.codeE a y z) s = .next (afterChar 0x45 s)
    ∧ exec (.codeR a y z) s = .next (afterChar 0x52 s)
    ∧ exec (.codeT a y z) s = .next (afterChar 0x54 s)
    ∧ exec (.codeY a y z) s = .next (afterChar 0x59 s)
    ∧ exec (.codeU a y z) s = .next (afterChar 0x55 s)
    ∧ exec (.codeI a y z) s = .next (afterChar 0x49 s)

/-- R151 to R160, as above (log entry 6). -/
def Obligations.CodeRowsOToKEmitTheirByte : Prop :=
  ∀ (s : State) (a : Bit) (y z : Option Bit),
    exec (.codeO a y z) s = .next (afterChar 0x4F s)
    ∧ exec (.codeP a y z) s = .next (afterChar 0x50 s)
    ∧ exec (.codeA a y z) s = .next (afterChar 0x41 s)
    ∧ exec (.codeS a y z) s = .next (afterChar 0x53 s)
    ∧ exec (.codeD a y z) s = .next (afterChar 0x44 s)
    ∧ exec (.codeF a y z) s = .next (afterChar 0x46 s)
    ∧ exec (.codeG a y z) s = .next (afterChar 0x47 s)
    ∧ exec (.codeH a y z) s = .next (afterChar 0x48 s)
    ∧ exec (.codeJ a y z) s = .next (afterChar 0x4A s)
    ∧ exec (.codeK a y z) s = .next (afterChar 0x4B s)

/-- R161 to R170, as above (log entry 6). -/
def Obligations.CodeRowsLToLfEmitTheirByte : Prop :=
  ∀ (s : State) (a : Bit) (y z : Option Bit),
    exec (.codeL a y z) s = .next (afterChar 0x4C s)
    ∧ exec (.codeZ a y z) s = .next (afterChar 0x5A s)
    ∧ exec (.codeX a y z) s = .next (afterChar 0x58 s)
    ∧ exec (.codeC a y z) s = .next (afterChar 0x43 s)
    ∧ exec (.codeV a y z) s = .next (afterChar 0x56 s)
    ∧ exec (.codeB a y z) s = .next (afterChar 0x42 s)
    ∧ exec (.codeN a y z) s = .next (afterChar 0x4E s)
    ∧ exec (.codeM a y z) s = .next (afterChar 0x4D s)
    ∧ exec (.codeCr a y z) s = .next (afterChar 0x0D s)
    ∧ exec (.codeLf a y z) s = .next (afterChar 0x0A s)

/-- R171, R172, R173: the two unmapped keys and every key of fewer than five bits fall back to a space. That the chunk is the
operand of a row run by itself is log entry 6. -/
def Obligations.UnmappedAndShortKeysEmitASpace : Prop :=
  (∀ (s : State) (a : Bit) (y z : Option Bit),
    exec (.codeUnmapped11011 a y z) s = .next (afterChar 0x20 s)
    ∧ exec (.codeUnmapped11111 a y z) s = .next (afterChar 0x20 s))
  ∧ codeTable [b1, b1, b0, b1, b1] = none ∧ codeTable [b1, b1, b1, b1, b1] = none
  ∧ (∀ key : List Bit, key.length < 5 → codeTable key = none)
  ∧ ∀ (s : State) (x k1 k2 k3 k4 : Bit),
    exec (.codeShort1 [x]) s = .next (afterChar 0x20 s)
    ∧ exec (.codeShort2 [x, k1]) s = .next (afterChar 0x20 s)
    ∧ exec (.codeShort3 [x, k1, k2]) s = .next (afterChar 0x20 s)
    ∧ exec (.codeShort4 [x, k1, k2, k3]) s = .next (afterChar 0x20 s)
    ∧ exec (.codeShort5 [x, k1, k2, k3, k4]) s = .next (afterChar 0x20 s)

/-- R66, R136, R137: from a decoder with no chunk open, the eight BaudotBits of a frame, pushed one at a time, do what the
frame's `CHARFRAME` row does. That the row, run by itself, counts no BaudotBit and leaves no chunk open, as these pushes do,
is the model's reading of it (log entry 6, DEDUCED). -/
def Obligations.FrameRowsAgreeWithEightPushes : Prop :=
  ∀ (s : State) (bits : List Bit), s.dec.k = 0 → s.dec.key = [] → bits.length = 8 →
    ∃ i, decode (.charFrame bits) = .ok i ∧ execAll (bits.map Instr.decPush) s = exec i s

/-- R60, R66, R136, R138: the same for the last chunk of a run, of 1 to 7 BaudotBits, pushed and then flushed. The row's own
effect rests on log entry 6 (DEDUCED), as above. -/
def Obligations.LastChunkRowsAgreeWithPushesAndFlush : Prop :=
  ∀ (s : State) (bits : List Bit), s.dec.k = 0 → s.dec.key = [] → 1 ≤ bits.length → bits.length ≤ 7 →
    ∃ i, decode (.charFrame bits) = .ok i ∧ execAll (bits.map Instr.decPush ++ [.decFlush]) s = exec i s

/-- R140: 30 entries, the keys distinct, the bytes distinct (26 letters, NUL, SPACE, CR, LF); `11011` and `11111` alone of
the 32 keys have none, and with `00100` they give a space; every entry decodes from its frame, whatever the other bits. -/
def Obligations.CodeTableHasThirtyDistinctEntries : Prop :=
  codeEntries.length = 30 ∧ (codeEntries.map Prod.fst).Nodup ∧ (codeEntries.map Prod.snd).Nodup
  ∧ (∀ c : Byte, c ∈ codeEntries.map Prod.snd ↔
      (0x41 ≤ c.toNat ∧ c.toNat ≤ 0x5A) ∨ c = 0x00 ∨ c = 0x20 ∨ c = 0x0D ∨ c = 0x0A)
  ∧ (∀ k0 k1 k2 k3 k4 : Bit, codeTable [k0, k1, k2, k3, k4] = none ↔
      [k0, k1, k2, k3, k4] = [b1, b1, b0, b1, b1] ∨ [k0, k1, k2, k3, k4] = [b1, b1, b1, b1, b1])
  ∧ (∀ k0 k1 k2 k3 k4 : Bit, charOfKey [k0, k1, k2, k3, k4] = 0x20 ↔
      [k0, k1, k2, k3, k4] = [b0, b0, b1, b0, b0] ∨ [k0, k1, k2, k3, k4] = [b1, b1, b0, b1, b1]
        ∨ [k0, k1, k2, k3, k4] = [b1, b1, b1, b1, b1])
  ∧ ∀ e ∈ codeEntries, ∀ a y z : Bit, chunkChar (a :: e.1 ++ [y, z]) = e.2

/-! ### The batch functions -/

/-- R87: padding a frame with zeros leaves its power unchanged. -/
def Obligations.ZeroPaddingKeepsThePower : Prop :=
  ∀ (c : NumQ) (fr : List NumQ) (z : Nat), power c (fr ++ List.replicate z 0) = power c fr

/-- R89: for `|c| ≤ 2` a power is not negative; it is 0 for an all-zero frame and `x²` for one sample; for `|c| > 2` it can
be negative. -/
def Obligations.PowerIsNonnegativeUpToTwo : Prop :=
  (∀ (c : NumQ) (fr : List NumQ), -2 ≤ c → c ≤ 2 → 0 ≤ power c fr)
  ∧ (∀ (c : NumQ) (m : Nat), power c (List.replicate m 0) = 0)
  ∧ (∀ c x : NumQ, power c [x] = x * x)
  ∧ ∀ c : NumQ, (2 < c ∨ c < -2) → ∃ fr : List NumQ, power c fr < 0

/-- R84: scaling every sample by `a` scales a power by `a²`, so in relative mode a gain `a ≠ 0` changes no flag. -/
def Obligations.RelativeDecisionIgnoresTheGain : Prop :=
  (∀ (a c : NumQ) (fr : List NumQ), power c (fr.map (a * ·)) = a * a * power c fr)
  ∧ ∀ (a : NumQ) (c : DecodeCfg) (fr : List NumQ), a ≠ 0 → c.abs = b0 → flagsOf c (fr.map (a * ·)) = flagsOf c fr

/-- R81: the frames of a buffer leave no sample out, every one but the last has `F` samples, and there are `ceil(L / F)`. -/
def Obligations.FramesPartitionTheBuffer : Prop :=
  ∀ (buf : List NumQ) (f : Nat), 1 ≤ f →
    (frames buf f).flatten = buf
    ∧ (frames buf f).length * f < buf.length + f ∧ buf.length ≤ (frames buf f).length * f
    ∧ (∀ i, i + 1 < (frames buf f).length → ((frames buf f).getD i []).length = f)
    ∧ ∀ fr ∈ frames buf f, 1 ≤ fr.length ∧ fr.length ≤ f

/-- R111: `Anchor(sy) = j + 1` for the smallest `j` with `sy[j] = 0` and a 1 before it; it fails iff there is none. -/
def Obligations.AnchorIsPastTheFirstSpaceAfterAMark : Prop :=
  ∀ sy : List Bit,
    (∀ a, anchorOf sy = some a →
      2 ≤ a ∧ a ≤ sy.length ∧ sy[a - 1]? = some b0 ∧ (∃ i, i < a - 1 ∧ sy[i]? = some b1)
      ∧ ∀ j, j < a - 1 → sy[j]? = some b0 → ∀ i, i < j → sy[i]? ≠ some b1)
    ∧ (anchorOf sy = none ↔ ¬∃ i j : Nat, i < j ∧ sy[i]? = some b1 ∧ sy[j]? = some b0)

/-- R112, R47: bit `j` is the vote of the window that begins at `a + 7·ceil(j/2) + 8·floor(j/2)`, and there are as many
bits as whole windows; it fails exactly when the anchor does. -/
def Obligations.BitsAreTheVotesOfTheWholeWindows : Prop :=
  (∀ sy : List Bit, bitsOf sy = none ↔ anchorOf sy = none)
  ∧ ∀ (sy bits : List Bit) (a : Nat), anchorOf sy = some a → bitsOf sy = some bits →
    (∀ q, q ≤ bits.length ↔ windowSpan q ≤ sy.length - a)
    ∧ ∀ j, j < bits.length → bits[j]? = some (vote (slice sy (a + windowSpan j) (a + windowSpan (j + 1))))

/-! ### The two forms agree -/

/-- R88: a sample run appends to `tap_sym` exactly the Symbols of the batch definition, one at each sample that fills a
frame and one more at `END` for a short frame. -/
def Obligations.SampleRunProducesTheBatchSymbols : Prop :=
  ∀ (s t0 : State) (buf : List Word32), s.cfg.src = .samples → 0 < frameSize s → accepted .start s = true →
    exec .start s = .next t0 →
    ∀ c : DecodeCfg, c = ⟨frameSize s, coeff .mark s, coeff .space s, s.cfg.abs, threshold s⟩ →
      (∃ t, execAll (Asm.samples buf) t0 = .next t
        ∧ t.str.tapSym
          = (symbolSeq (toneFlagsSeq c (buf.map q16))).take (buf.length / (frameSize s).toNat))
      ∧ (buf ≠ [] → ∃ t, execAll (Asm.samples buf ++ [.endRun]) t0 = .next t
        ∧ t.str.tapSym = symbolSeq (toneFlagsSeq c (buf.map q16)))

/-- R122: a synchronizer in its `START` state, fed Symbols one at a time and then checked, fails exactly when `Anchor`
fails, with no bits; else it has the batch anchor and bits, bit `j` emitted at the last symbol of window `j`. -/
def Obligations.StreamedSymbolsGiveTheBatchBits : Prop :=
  ∀ (s : State) (sy : List Bit), s.ctl.run = .run → s.cfg.src = .symbols → s.sync = .reset → s.cnt.nsym = 0 →
    s.str.tapBit = [] →
    ∃ t, execAll (Asm.syms sy) s = .next t
      ∧ (anchorOf sy = none → exec .syncEnd t = .next (afterError .syncNotFound t) ∧ t.str.tapBit = [])
      ∧ ∀ a, anchorOf sy = some a →
          exec .syncEnd t = .next t ∧ t.sync.anchor = a ∧ bitsOf sy = some t.str.tapBit
          ∧ ∀ m j, m ≤ sy.length → ∃ u, execAll (Asm.syms (sy.take m)) s = .next u
              ∧ (j < u.str.tapBit.length ↔ a + windowSpan (j + 1) ≤ m)

/-- R139: a decoder in its `START` state, fed BaudotBits one at a time and then flushed, emits the batch text; before the
flush it has emitted the character of each full chunk. -/
def Obligations.StreamedBitsGiveTheBatchText : Prop :=
  ∀ (s : State) (bs : List Bit), s.ctl.run = .run → s.cfg.src = .bits → s.dec = .reset → s.str.out = [] →
    ∃ t u, execAll (Asm.bits bs) s = .next t ∧ exec .decFlush t = .next u
      ∧ u.str.out = textOf bs ∧ t.str.out = (textOf bs).take (bs.length / 8) ∧ t.str.out.length = bs.length / 8

/-- R192: the command port computes `Decode`, whatever `NOP` and `RD` commands are mixed in. -/
def Obligations.CommandPortComputesDecode : Prop :=
  ∀ (s : State) (buf : List Word32) (cmds : List Instr) (c : DecodeCfg),
    s.cfg.src = .samples → accepted .start s = true →
    c = ⟨frameSize s, coeff .mark s, coeff .space s, s.cfg.abs, threshold s⟩ →
    cmds.filter (fun i => !isObserver i) = Asm.decodeRun buf →
    ∃ t0 t, exec .start s = .next t0 ∧ execAll cmds s = .next t
      ∧ (decodeBuffer c (buf.map q16) = .error .invalidFrameSize →
          t.ctl.run = .err ∧ t.ctl.err = .invalidFrameSize
          ∧ t.str.out = [] ∧ t.cnt.nsym = 0 ∧ t.cnt.nbit = 0 ∧ t.cnt.nchar = 0
          ∧ (frameSize s ≤ 0 → t0.ctl.run = .err ∧ t0.ctl.err = .invalidFrameSize
              ∧ ∀ i ∈ Asm.samples buf ++ [.endRun], exec i t0 = .next (afterRefusal t0))
          ∧ (0 < frameSize s → buf = [] ∧ t0.ctl.run = .run))
      ∧ (decodeBuffer c (buf.map q16) = .error .syncNotFound →
          t.ctl.run = .err ∧ t.ctl.err = .syncNotFound ∧ t.str.out = []
          ∧ t.cnt.nsym = ceilDiv buf.length (frameSize s).toNat ∧ t.cnt.nbit = 0 ∧ t.cnt.nchar = 0)
      ∧ (∀ r, decodeBuffer c (buf.map q16) = .ok r →
          t.ctl.run = .done ∧ t.ctl.err = .none ∧ (t.str.out, t.cnt.nsym, t.cnt.nbit, t.cnt.nchar) = r)
      ∧ decodeBuffer c (buf.map q16) ≠ .error .none

/-! ### Invariants and rules over every command -/

/-- The invariant holds after reset. -/
def Obligations.InvariantHoldsAfterReset : Prop :=
  Inv State.reset

/-- The invariant of R29 (with R20, R24, R26) is kept by every step that takes an input of the hardware or none, from every
state that has it. In `DONE`, R29 (c) is taken as log entry 10 says. -/
def Obligations.HardwareStepKeepsTheInvariant : Prop :=
  ∀ s t : State, Inv s → (∀ x ∈ s.env.pending.head?, isHardwareInput x = true) → step s = .next t → Inv t

/-- R29 (c) as the rule writes it: true outside `DONE`; kept by every command but one that takes `MODE.SRC` from `BITS` to
another source in `DONE`; and after that one command false of a reachable state, by R183 and R188 (log entry 10). -/
def Obligations.UnsynchronisedRunsHaveNoBitsUntilModeIsWritten : Prop :=
  (∀ s : State, Inv s → s.ctl.run ≠ .done → R29c s)
  ∧ (∀ (i : Instr) (s t : State), Inv s → R29c s → i.isCommand = true → exec i s = .next t →
      (s.ctl.run = .done → t.ctl.run = .done → s.cfg.src = .bits → t.cfg.src = .bits) → R29c t)
  ∧ ∃ s : State, Reachable s ∧ s.ctl.run = .done ∧ ¬R29c s

/-- R206: in a reachable state an error comes with no text, no BaudotBit and no character; and once a character has been
emitted in an open run, no input of the hardware makes the run fail. -/
def Obligations.FailedRunsDeliverNoText : Prop :=
  (∀ s : State, Reachable s → s.ctl.run = .err → s.str.out = [] ∧ s.cnt.nbit = 0 ∧ s.cnt.nchar = 0)
  ∧ ∀ (s t : State) (x : Input), Reachable s → s.ctl.run = .run → s.str.out ≠ [] → isHardwareInput x = true →
      step (offer x s) = .next t → t.ctl.run ≠ .err

/-- R11, R54, R241: the configuration is changed by `RST` and by an accepted `CFG` alone, so never in an open run but by
`RST`. -/
def Obligations.ConfigurationIsFixedWhileARunIsOpen : Prop :=
  ∀ (i : Instr) (s t : State), i.isCommand = true → exec i s = .next t →
    (i ≠ .rst → s.ctl.run = .run → t.cfg = s.cfg)
    ∧ (i ≠ .rst → isCfgWrite i = false → t.cfg = s.cfg)

/-- R16: the only transitions of `run`. -/
def Obligations.RunStateMovesByStartEndAndReset : Prop :=
  ∀ (i : Instr) (s t : State), i.isCommand = true → exec i s = .next t → t.ctl.run ≠ s.ctl.run →
    (i = .rst ∧ t.ctl.run = .idle)
    ∨ (i = .start ∧ s.ctl.run ≠ .run ∧ (t.ctl.run = .run ∨ t.ctl.run = .err))
    ∨ (i = .endRun ∧ s.ctl.run = .run ∧ (t.ctl.run = .done ∨ t.ctl.run = .err))

/-- R200, R201, R203: the only places where an error is raised, exactly when, and the cause recorded. A command raises when
it ends in `ERR` and did not start there, or is an accepted `START` (which first leaves `ERR`, R208). The conditions are on
the command, the state before, and, for an `END` of a run that has had its input, the phase once the last frame is closed. -/
def Obligations.ErrorsAreRaisedOnlyAsTheTableSays : Prop :=
  ∀ (i : Instr) (s t : State), i.isCommand = true → exec i s = .next t →
    (t.ctl.run = .err ∧ (s.ctl.run = .err → i = .start ∧ accepted .start s = true) ↔
      (i = .start ∧ accepted .start s = true ∧ s.cfg.src = .samples ∧ s.cfg.frameSize.toInt ≤ 0)
      ∨ (i = .endRun ∧ s.ctl.run = .run ∧ s.cfg.src = .samples ∧ s.tone.seen = b0)
      ∨ (i = .endRun ∧ s.ctl.run = .run ∧ (s.cfg.src = .samples ∧ s.tone.seen = b1 ∨ s.cfg.src = .symbols)
          ∧ t.sync.ph ≠ .extract))
    ∧ (i = .start → accepted .start s = true → s.cfg.src = .samples → s.cfg.frameSize.toInt ≤ 0 →
        t.ctl.err = .invalidFrameSize)
    ∧ (i = .endRun → s.ctl.run = .run → s.cfg.src = .samples → s.tone.seen = b0 → t.ctl.err = .invalidFrameSize)
    ∧ (i = .endRun → s.ctl.run = .run → (s.cfg.src = .samples ∧ s.tone.seen = b1 ∨ s.cfg.src = .symbols) →
        t.sync.ph ≠ .extract → t.ctl.err = .syncNotFound)
    ∧ (t.ctl.err ≠ s.ctl.err → t.ctl.err = .invalidFrameSize →
        i = .start ∨ (i = .endRun ∧ s.cfg.src = .samples ∧ s.tone.seen = b0))
    ∧ (t.ctl.err ≠ s.ctl.err → t.ctl.err = .syncNotFound → i = .endRun ∧ s.cfg.src ≠ .bits ∧ t.sync.ph ≠ .extract)
    ∧ (t.ctl.err ≠ s.ctl.err → t.ctl.err ≠ .none → t.ctl.run = .err)

/-- R121: once synchronised, the phase and the anchor stay until the next `START` or reset. -/
def Obligations.SynchronisationIsSingleShot : Prop :=
  ∀ (i : Instr) (s t : State), i.isCommand = true → i ≠ .start → i ≠ .rst → s.sync.ph = .extract →
    exec i s = .next t → t.sync.ph = .extract ∧ t.sync.anchor = s.sync.anchor

/-- R28, R235, R244: a command other than `START` and `RST` only appends to the three streams, and outside `RUN` changes
none of them and no counter. -/
def Obligations.StreamsOnlyGrowWithinARun : Prop :=
  ∀ (i : Instr) (s t : State), i.isCommand = true → i ≠ .start → i ≠ .rst → exec i s = .next t →
    s.str.out <+: t.str.out ∧ s.str.tapSym <+: t.str.tapSym ∧ s.str.tapBit <+: t.str.tapBit
    ∧ (s.ctl.run ≠ .run → t.str = s.str ∧ t.cnt = s.cnt)

/-- R118, R71 (a): which window is open, how far it is filled and how many BaudotBits have been emitted depend on the
number of Symbols alone, never on their values. -/
def Obligations.WindowAlternationIgnoresTheData : Prop :=
  ∀ (s1 s2 : State) (l1 l2 : List Bit), s1.sync.ph = .extract → s2.sync.ph = .extract →
    s1.sync.w = s2.sync.w → s1.sync.pos = s2.sync.pos → s1.cnt.nbit = s2.cnt.nbit → l1.length = l2.length →
    ∃ t1 t2, execAll (l1.map Instr.syncStep) s1 = .next t1 ∧ execAll (l2.map Instr.syncStep) s2 = .next t2
      ∧ t1.sync.w = t2.sync.w ∧ t1.sync.pos = t2.sync.pos ∧ t1.cnt.nbit = t2.cnt.nbit

/-- R33, R233: after an accepted `START`, what any commands do depends on the configuration alone; of what came before,
only `rdata` can still be seen. The two blocks may have taken any numbers of inputs (`env`, log entry 2). -/
def Obligations.RunsOweNothingToTheRunBefore : Prop :=
  ∀ (s1 s2 : State) (cmds : List Instr), s1.cfg = s2.cfg → accepted .start s1 = true →
    accepted .start s2 = true → (∀ i ∈ cmds, i.isCommand = true) →
    ∃ t1 t2, execAll (.start :: cmds) s1 = .next t1 ∧ execAll (.start :: cmds) s2 = .next t2
      ∧ t1.cfg = t2.cfg ∧ (afterRead 0 t1).ctl = (afterRead 0 t2).ctl ∧ t1.tone = t2.tone ∧ t1.sync = t2.sync
      ∧ t1.dec = t2.dec ∧ t1.cnt = t2.cnt ∧ t1.str = t2.str
end

