-- ==== Sys2Proof/Laws/Decode.lean ====
section
/-!
SUPPORT. The fields of a command word built by `cmdWord` read back (R61), and the payload readings of R63.
-/

namespace Sys2Proof.Decode

@[simp] theorem opField_cmdWord (op reg : BitVec 4) (d : Word32) : opField (cmdWord op reg d) = op := by
  unfold opField cmdWord
  ext i hi
  simp only [BitVec.getElem_extractLsb', BitVec.getLsbD_append]
  rw [if_neg (by omega), if_neg (by omega), show 36 + i - 32 - 4 = i by omega, BitVec.getLsbD_eq_getElem hi]

@[simp] theorem regField_cmdWord (op reg : BitVec 4) (d : Word32) : regField (cmdWord op reg d) = reg := by
  unfold regField cmdWord
  ext i hi
  simp only [BitVec.getElem_extractLsb', BitVec.getLsbD_append]
  rw [if_neg (by omega), if_pos (by omega), show 32 + i - 32 = i by omega, BitVec.getLsbD_eq_getElem hi]

@[simp] theorem dataField_cmdWord (op reg : BitVec 4) (d : Word32) : dataField (cmdWord op reg d) = d := by
  unfold dataField cmdWord
  ext i hi
  simp only [BitVec.getElem_extractLsb', BitVec.getLsbD_append]
  rw [if_pos (by omega), show 0 + i = i by omega, BitVec.getLsbD_eq_getElem hi]

/-- A command word is made of its three fields (R61). -/
theorem cmdWord_fields (w : CmdWord) : cmdWord (opField w) (regField w) (dataField w) = w := by
  unfold opField regField dataField cmdWord
  ext i hi
  simp only [BitVec.getElem_append, BitVec.getElem_extractLsb']
  by_cases h : i < 32
  · simp [h, BitVec.getLsbD_eq_getElem hi]
  · by_cases h2 : i - 32 < 4
    · simp [h, h2, show 32 + (i - 32) = i by omega, BitVec.getLsbD_eq_getElem hi]
    · simp [h, h2, show 36 + (i - 32 - 4) = i by omega, BitVec.getLsbD_eq_getElem hi]

@[simp] theorem dataBit_bitData (b : Bit) : dataBit (bitData b) = b := by
  cases b <;> rfl

@[simp] theorem dataBit_modeData (abs : Bit) (src : BitVec 2) : dataBit (modeData abs src) = abs := by
  revert abs src; decide

@[simp] theorem modeSrc_modeData (abs : Bit) (src : BitVec 2) : modeSrc (modeData abs src) = src := by
  revert abs src; decide

end Sys2Proof.Decode
end

