-- ==== Sys2Proof/Laws/State.lean ====
section
/-!
SUPPORT. One lemma per field per update of the state: a group an update leaves alone is equal before and after, a group it
touches is given field by field.
-/

namespace Sys2Proof.Machine

variable (s : State)

/-! `raise` -/

@[simp] theorem raise_cfg (e : ErrCause) : (raise e s).cfg = s.cfg := rfl
@[simp] theorem raise_run (e : ErrCause) : (raise e s).ctl.run = .err := rfl
@[simp] theorem raise_err (e : ErrCause) : (raise e s).ctl.err = e := rfl
@[simp] theorem raise_rej (e : ErrCause) : (raise e s).ctl.rej = s.ctl.rej := rfl
@[simp] theorem raise_rdata (e : ErrCause) : (raise e s).ctl.rdata = s.ctl.rdata := rfl
@[simp] theorem raise_tone (e : ErrCause) : (raise e s).tone = s.tone := rfl
@[simp] theorem raise_sync (e : ErrCause) : (raise e s).sync = s.sync := rfl
@[simp] theorem raise_dec (e : ErrCause) : (raise e s).dec = s.dec := rfl
@[simp] theorem raise_cnt (e : ErrCause) : (raise e s).cnt = s.cnt := rfl
@[simp] theorem raise_str (e : ErrCause) : (raise e s).str = s.str := rfl
@[simp] theorem raise_env (e : ErrCause) : (raise e s).env = s.env := rfl

/-! `refuse` -/

@[simp] theorem refuse_cfg : (refuse s).cfg = s.cfg := rfl
@[simp] theorem refuse_run : (refuse s).ctl.run = s.ctl.run := rfl
@[simp] theorem refuse_err : (refuse s).ctl.err = s.ctl.err := rfl
@[simp] theorem refuse_rej : (refuse s).ctl.rej = b1 := rfl
@[simp] theorem refuse_rdata : (refuse s).ctl.rdata = s.ctl.rdata := rfl
@[simp] theorem refuse_tone : (refuse s).tone = s.tone := rfl
@[simp] theorem refuse_sync : (refuse s).sync = s.sync := rfl
@[simp] theorem refuse_dec : (refuse s).dec = s.dec := rfl
@[simp] theorem refuse_cnt : (refuse s).cnt = s.cnt := rfl
@[simp] theorem refuse_str : (refuse s).str = s.str := rfl
@[simp] theorem refuse_env : (refuse s).env = s.env := rfl

/-! `setRdata` -/

@[simp] theorem setRdata_cfg (v : Word32) : (setRdata v s).cfg = s.cfg := rfl
@[simp] theorem setRdata_run (v : Word32) : (setRdata v s).ctl.run = s.ctl.run := rfl
@[simp] theorem setRdata_err (v : Word32) : (setRdata v s).ctl.err = s.ctl.err := rfl
@[simp] theorem setRdata_rej (v : Word32) : (setRdata v s).ctl.rej = s.ctl.rej := rfl
@[simp] theorem setRdata_rdata (v : Word32) : (setRdata v s).ctl.rdata = v := rfl
@[simp] theorem setRdata_tone (v : Word32) : (setRdata v s).tone = s.tone := rfl
@[simp] theorem setRdata_sync (v : Word32) : (setRdata v s).sync = s.sync := rfl
@[simp] theorem setRdata_dec (v : Word32) : (setRdata v s).dec = s.dec := rfl
@[simp] theorem setRdata_cnt (v : Word32) : (setRdata v s).cnt = s.cnt := rfl
@[simp] theorem setRdata_str (v : Word32) : (setRdata v s).str = s.str := rfl
@[simp] theorem setRdata_env (v : Word32) : (setRdata v s).env = s.env := rfl

/-! `setRun` -/

@[simp] theorem setRun_cfg (r : RunState) : (setRun r s).cfg = s.cfg := rfl
@[simp] theorem setRun_run (r : RunState) : (setRun r s).ctl.run = r := rfl
@[simp] theorem setRun_err (r : RunState) : (setRun r s).ctl.err = s.ctl.err := rfl
@[simp] theorem setRun_rej (r : RunState) : (setRun r s).ctl.rej = s.ctl.rej := rfl
@[simp] theorem setRun_rdata (r : RunState) : (setRun r s).ctl.rdata = s.ctl.rdata := rfl
@[simp] theorem setRun_tone (r : RunState) : (setRun r s).tone = s.tone := rfl
@[simp] theorem setRun_sync (r : RunState) : (setRun r s).sync = s.sync := rfl
@[simp] theorem setRun_dec (r : RunState) : (setRun r s).dec = s.dec := rfl
@[simp] theorem setRun_cnt (r : RunState) : (setRun r s).cnt = s.cnt := rfl
@[simp] theorem setRun_str (r : RunState) : (setRun r s).str = s.str := rfl
@[simp] theorem setRun_env (r : RunState) : (setRun r s).env = s.env := rfl

/-! `setCfg` -/

@[simp] theorem setCfg_cfg (c : Cfg) : (setCfg c s).cfg = c := rfl
@[simp] theorem setCfg_ctl (c : Cfg) : (setCfg c s).ctl = s.ctl := rfl
@[simp] theorem setCfg_tone (c : Cfg) : (setCfg c s).tone = s.tone := rfl
@[simp] theorem setCfg_sync (c : Cfg) : (setCfg c s).sync = s.sync := rfl
@[simp] theorem setCfg_dec (c : Cfg) : (setCfg c s).dec = s.dec := rfl
@[simp] theorem setCfg_cnt (c : Cfg) : (setCfg c s).cnt = s.cnt := rfl
@[simp] theorem setCfg_str (c : Cfg) : (setCfg c s).str = s.str := rfl
@[simp] theorem setCfg_env (c : Cfg) : (setCfg c s).env = s.env := rfl

/-! `emitChar` -/

@[simp] theorem emitChar_cfg (b : Byte) : (emitChar b s).cfg = s.cfg := rfl
@[simp] theorem emitChar_ctl (b : Byte) : (emitChar b s).ctl = s.ctl := rfl
@[simp] theorem emitChar_tone (b : Byte) : (emitChar b s).tone = s.tone := rfl
@[simp] theorem emitChar_sync (b : Byte) : (emitChar b s).sync = s.sync := rfl
@[simp] theorem emitChar_dec (b : Byte) : (emitChar b s).dec = s.dec := rfl
@[simp] theorem emitChar_nsym (b : Byte) : (emitChar b s).cnt.nsym = s.cnt.nsym := rfl
@[simp] theorem emitChar_nbit (b : Byte) : (emitChar b s).cnt.nbit = s.cnt.nbit := rfl
@[simp] theorem emitChar_nchar (b : Byte) : (emitChar b s).cnt.nchar = s.cnt.nchar + 1 := rfl
@[simp] theorem emitChar_out (b : Byte) : (emitChar b s).str.out = s.str.out ++ [b] := rfl
@[simp] theorem emitChar_tapSym (b : Byte) : (emitChar b s).str.tapSym = s.str.tapSym := rfl
@[simp] theorem emitChar_tapBit (b : Byte) : (emitChar b s).str.tapBit = s.str.tapBit := rfl
@[simp] theorem emitChar_env (b : Byte) : (emitChar b s).env = s.env := rfl

/-! `clearChunk` -/

@[simp] theorem clearChunk_cfg : (clearChunk s).cfg = s.cfg := rfl
@[simp] theorem clearChunk_ctl : (clearChunk s).ctl = s.ctl := rfl
@[simp] theorem clearChunk_tone : (clearChunk s).tone = s.tone := rfl
@[simp] theorem clearChunk_sync : (clearChunk s).sync = s.sync := rfl
@[simp] theorem clearChunk_dec : (clearChunk s).dec = .reset := rfl
@[simp] theorem clearChunk_cnt : (clearChunk s).cnt = s.cnt := rfl
@[simp] theorem clearChunk_str : (clearChunk s).str = s.str := rfl
@[simp] theorem clearChunk_env : (clearChunk s).env = s.env := rfl

/-! `pushBit` -/

@[simp] theorem pushBit_cfg (b : Bit) : (pushBit b s).cfg = s.cfg := rfl
@[simp] theorem pushBit_ctl (b : Bit) : (pushBit b s).ctl = s.ctl := rfl
@[simp] theorem pushBit_tone (b : Bit) : (pushBit b s).tone = s.tone := rfl
@[simp] theorem pushBit_sync (b : Bit) : (pushBit b s).sync = s.sync := rfl
@[simp] theorem pushBit_k (b : Bit) : (pushBit b s).dec.k = s.dec.k + 1 := rfl
@[simp] theorem pushBit_key (b : Bit) :
    (pushBit b s).dec.key = if isDataPos s.dec.k then s.dec.key ++ [b] else s.dec.key := rfl
@[simp] theorem pushBit_cnt (b : Bit) : (pushBit b s).cnt = s.cnt := rfl
@[simp] theorem pushBit_str (b : Bit) : (pushBit b s).str = s.str := rfl
@[simp] theorem pushBit_env (b : Bit) : (pushBit b s).env = s.env := rfl

/-! `takeSample` -/

@[simp] theorem takeSample_cfg (x : NumQ) : (takeSample x s).cfg = s.cfg := rfl
@[simp] theorem takeSample_ctl (x : NumQ) : (takeSample x s).ctl = s.ctl := rfl
@[simp] theorem takeSample_n (x : NumQ) : (takeSample x s).tone.n = s.tone.n + 1 := rfl
@[simp] theorem takeSample_seen (x : NumQ) : (takeSample x s).tone.seen = b1 := rfl
@[simp] theorem takeSample_mark (x : NumQ) :
    (takeSample x s).tone.mark = channelStep (coeff .mark s) s.tone.mark x := rfl
@[simp] theorem takeSample_space (x : NumQ) :
    (takeSample x s).tone.space = channelStep (coeff .space s) s.tone.space x := rfl
@[simp] theorem takeSample_markPresent (x : NumQ) : (takeSample x s).tone.markPresent = s.tone.markPresent := rfl
@[simp] theorem takeSample_spacePresent (x : NumQ) : (takeSample x s).tone.spacePresent = s.tone.spacePresent := rfl
@[simp] theorem takeSample_sync (x : NumQ) : (takeSample x s).sync = s.sync := rfl
@[simp] theorem takeSample_dec (x : NumQ) : (takeSample x s).dec = s.dec := rfl
@[simp] theorem takeSample_cnt (x : NumQ) : (takeSample x s).cnt = s.cnt := rfl
@[simp] theorem takeSample_str (x : NumQ) : (takeSample x s).str = s.str := rfl
@[simp] theorem takeSample_env (x : NumQ) : (takeSample x s).env = s.env := rfl

/-! `fbxResult` -/

@[simp] theorem fbxResult_cfg (m sp : Bit) : (fbxResult m sp s).cfg = s.cfg := rfl
@[simp] theorem fbxResult_ctl (m sp : Bit) : (fbxResult m sp s).ctl = s.ctl := rfl
@[simp] theorem fbxResult_tone (m sp : Bit) : (fbxResult m sp s).tone = s.tone := rfl
@[simp] theorem fbxResult_sync (m sp : Bit) : (fbxResult m sp s).sync = s.sync := rfl
@[simp] theorem fbxResult_dec (m sp : Bit) : (fbxResult m sp s).dec = s.dec := rfl
@[simp] theorem fbxResult_cnt (m sp : Bit) : (fbxResult m sp s).cnt = s.cnt := rfl
@[simp] theorem fbxResult_str (m sp : Bit) : (fbxResult m sp s).str = s.str := rfl
@[simp] theorem fbxResult_pending (m sp : Bit) : (fbxResult m sp s).env.pending = s.env.pending := rfl
@[simp] theorem fbxResult_fbxOut (m sp : Bit) : (fbxResult m sp s).env.fbxOut = some m := rfl
@[simp] theorem fbxResult_free (m sp : Bit) : (fbxResult m sp s).env.free = s.env.free := rfl

/-! `clearRun` -/

@[simp] theorem clearRun_cfg : (clearRun s).cfg = s.cfg := rfl
@[simp] theorem clearRun_run : (clearRun s).ctl.run = s.ctl.run := rfl
@[simp] theorem clearRun_err : (clearRun s).ctl.err = .none := rfl
@[simp] theorem clearRun_rej : (clearRun s).ctl.rej = b0 := rfl
@[simp] theorem clearRun_rdata : (clearRun s).ctl.rdata = s.ctl.rdata := rfl
@[simp] theorem clearRun_tone : (clearRun s).tone = .reset := rfl
@[simp] theorem clearRun_sync : (clearRun s).sync = .reset := rfl
@[simp] theorem clearRun_dec : (clearRun s).dec = .reset := rfl
@[simp] theorem clearRun_cnt : (clearRun s).cnt = .reset := rfl
@[simp] theorem clearRun_str : (clearRun s).str = .reset := rfl
@[simp] theorem clearRun_env : (clearRun s).env = s.env := rfl

/-! `resetBlock` -/

@[simp] theorem resetBlock_cfg : (resetBlock s).cfg = .reset := rfl
@[simp] theorem resetBlock_ctl : (resetBlock s).ctl = .reset := rfl
@[simp] theorem resetBlock_tone : (resetBlock s).tone = .reset := rfl
@[simp] theorem resetBlock_sync : (resetBlock s).sync = .reset := rfl
@[simp] theorem resetBlock_dec : (resetBlock s).dec = .reset := rfl
@[simp] theorem resetBlock_cnt : (resetBlock s).cnt = .reset := rfl
@[simp] theorem resetBlock_str : (resetBlock s).str = .reset := rfl
@[simp] theorem resetBlock_pending : (resetBlock s).env.pending = s.env.pending := rfl
@[simp] theorem resetBlock_fbxOut : (resetBlock s).env.fbxOut = none := rfl
@[simp] theorem resetBlock_free : (resetBlock s).env.free = s.env.free := rfl

/-! `takeInput` -/

@[simp] theorem takeInput_cfg (rest : List Input) : (takeInput rest s).cfg = s.cfg := rfl
@[simp] theorem takeInput_ctl (rest : List Input) : (takeInput rest s).ctl = s.ctl := rfl
@[simp] theorem takeInput_tone (rest : List Input) : (takeInput rest s).tone = s.tone := rfl
@[simp] theorem takeInput_sync (rest : List Input) : (takeInput rest s).sync = s.sync := rfl
@[simp] theorem takeInput_dec (rest : List Input) : (takeInput rest s).dec = s.dec := rfl
@[simp] theorem takeInput_cnt (rest : List Input) : (takeInput rest s).cnt = s.cnt := rfl
@[simp] theorem takeInput_str (rest : List Input) : (takeInput rest s).str = s.str := rfl
@[simp] theorem takeInput_pending (rest : List Input) : (takeInput rest s).env.pending = rest := rfl
@[simp] theorem takeInput_fbxOut (rest : List Input) : (takeInput rest s).env.fbxOut = s.env.fbxOut := rfl
@[simp] theorem takeInput_free (rest : List Input) : (takeInput rest s).env.free = s.env.free + 1 := rfl

/-! `placeStimulus` -/

@[simp] theorem placeStimulus_cfg (x : Stimulus) : (placeStimulus x s).cfg = s.cfg := rfl
@[simp] theorem placeStimulus_ctl (x : Stimulus) : (placeStimulus x s).ctl = s.ctl := rfl
@[simp] theorem placeStimulus_tone (x : Stimulus) : (placeStimulus x s).tone = s.tone := rfl
@[simp] theorem placeStimulus_sync (x : Stimulus) : (placeStimulus x s).sync = s.sync := rfl
@[simp] theorem placeStimulus_dec (x : Stimulus) : (placeStimulus x s).dec = s.dec := rfl
@[simp] theorem placeStimulus_cnt (x : Stimulus) : (placeStimulus x s).cnt = s.cnt := rfl
@[simp] theorem placeStimulus_str (x : Stimulus) : (placeStimulus x s).str = s.str := rfl
@[simp] theorem placeStimulus_pending (x : Stimulus) :
    (placeStimulus x s).env.pending = .item x :: s.env.pending := rfl
@[simp] theorem placeStimulus_fbxOut (x : Stimulus) : (placeStimulus x s).env.fbxOut = s.env.fbxOut := rfl
@[simp] theorem placeStimulus_free (x : Stimulus) : (placeStimulus x s).env.free = s.env.free := rfl

end Sys2Proof.Machine
end

