-- ==== Sys2Proof/Laws/Ops.lean ====
section
/-!
SUPPORT. One lemma per shared operation that says once everything it can do, and what it leaves alone; the provers cite
these instead of unfolding the operation.
-/

namespace Sys2Proof.Machine

/-! ### Registers and small readings -/

@[simp] theorem windowLength_seven : windowLength .seven = 7 := rfl
@[simp] theorem windowLength_eight : windowLength .eight = 8 := rfl
@[simp] theorem flipWindow_seven : flipWindow .seven = .eight := rfl
@[simp] theorem flipWindow_eight : flipWindow .eight = .seven := rfl

/-- The flip of R117 is `15 − W`. -/
theorem windowLength_flip (w : WindowLen) : windowLength (flipWindow w) = 15 - windowLength w := by
  cases w <;> rfl

@[simp] theorem flipWindow_flipWindow (w : WindowLen) : flipWindow (flipWindow w) = w := by
  cases w <;> rfl

theorem isDataPos_iff (p : Nat) : isDataPos p = true ↔ 1 ≤ p ∧ p ≤ 5 := by
  simp [isDataPos, Config.firstDataPos, Config.lastDataPos]

@[simp] theorem fbx_eq (m sp : Bit) : fbx m sp = m := rfl

/-- A source code reads back as its source (R14). -/
theorem sourceOf_srcCode (r : Source) : sourceOf (srcCode r) = some r := by
  cases r <;> rfl

/-- The reserved value of `MODE.SRC` is exactly 3 (R14). -/
theorem sourceOf_eq_none_iff (b : BitVec 2) : sourceOf b = none ↔ b = 3 := by
  revert b; decide

theorem coeff_of_some {ch : Channel} {s : State} {w : Word32} (h : coeffWord ch s.cfg = some w) :
    coeff ch s = q16 w := by
  simp [coeff, h]

theorem threshold_of_some {s : State} {w : Word32} (h : s.cfg.thresh = some w) : threshold s = q16 w := by
  simp [threshold, h]

/-- A coefficient depends on the configuration and the model's input count alone. -/
theorem coeff_congr {s t : State} (ch : Channel) (hc : t.cfg = s.cfg) (hf : t.env.free = s.env.free) :
    coeff ch t = coeff ch s := by
  simp [coeff, hc, hf]

/-- So does the threshold. -/
theorem threshold_congr {s t : State} (hc : t.cfg = s.cfg) (hf : t.env.free = s.env.free) :
    threshold t = threshold s := by
  simp [threshold, hc, hf]

theorem frameSize_congr {s t : State} (hc : t.cfg = s.cfg) : frameSize t = frameSize s := by
  simp [frameSize, hc]

/-- The decision of R84 in relative mode. -/
@[simp] theorem toneFlags_relative (t pm ps : NumQ) :
    toneFlags b0 t pm ps = (decide (ps < pm), !decide (ps < pm)) := rfl

/-- The decision of R84 in absolute mode. -/
@[simp] theorem toneFlags_absolute (t pm ps : NumQ) :
    toneFlags b1 t pm ps = (decide (t < pm), decide (t < ps)) := rfl

/-! ### CFG and the input commands -/

/-- Everything a `CFG` write can do (R183). -/
theorem cfgWrite_cases (f : Cfg → Cfg) (s : State) :
    (s.ctl.run = .run ∧ cfgWrite f s = refuse s) ∨ (s.ctl.run ≠ .run ∧ cfgWrite f s = setCfg (f s.cfg) s) := by
  by_cases h : s.ctl.run = .run <;> simp [cfgWrite, h]

/-- Everything an input command can do (R186 to R188). -/
theorem feed_cases (src : Source) (f : State → State) (s : State) :
    ((s.ctl.run = .run ∧ s.cfg.src = src) ∧ feed src f s = f s)
      ∨ (¬(s.ctl.run = .run ∧ s.cfg.src = src) ∧ feed src f s = refuse s) := by
  by_cases h : s.ctl.run = .run ∧ s.cfg.src = src <;> simp [feed, h]

/-! ### baudot_decoder -/

/-- `DEC.EMIT` whole (R137). -/
theorem decEmit_eq (s : State) :
    decEmit s = { s with
      dec := { k := 0, key := [] }
      cnt := { s.cnt with nchar := s.cnt.nchar + 1 }
      str := { s.str with out := s.str.out ++ [charOfKey s.dec.key] } } := rfl

/-- `DEC.PUSH` inside a chunk (R136). -/
theorem decPush_open {b : Bit} {s : State} (h : s.dec.k + 1 ≠ 8) : decPush b s = pushBit b s := by
  simp [decPush, Config.chunkLength, h]

/-- `DEC.PUSH` at the last position of a chunk (R136, R137). -/
theorem decPush_last {b : Bit} {s : State} (h : s.dec.k = 7) :
    decPush b s = { s with
      dec := { k := 0, key := [] }
      cnt := { s.cnt with nchar := s.cnt.nchar + 1 }
      str := { s.str with out := s.str.out ++ [charOfKey s.dec.key] } } := by
  simp [decPush, Config.chunkLength, h, decEmit, clearChunk, emitChar, pushBit, Dec.reset]
  simp [isDataPos, Config.lastDataPos]

/-- `DEC.FLUSH` whole (R138). -/
theorem decFlush_cases (s : State) :
    (s.dec.k = 0 ∧ decFlush s = s) ∨ (1 ≤ s.dec.k ∧ decFlush s = decEmit s) := by
  by_cases h : 1 ≤ s.dec.k
  · simp [decFlush, h]
  · simp [decFlush, h]; omega

/-- What `DEC.EMIT` leaves alone. -/
theorem decEmit_frame (s : State) :
    (decEmit s).cfg = s.cfg ∧ (decEmit s).ctl = s.ctl ∧ (decEmit s).tone = s.tone ∧ (decEmit s).sync = s.sync
      ∧ (decEmit s).env = s.env := ⟨rfl, rfl, rfl, rfl, rfl⟩

/-- What `DEC.PUSH` leaves alone. -/
theorem decPush_frame (b : Bit) (s : State) :
    (decPush b s).cfg = s.cfg ∧ (decPush b s).ctl = s.ctl ∧ (decPush b s).tone = s.tone
      ∧ (decPush b s).sync = s.sync ∧ (decPush b s).env = s.env := by
  unfold decPush; split <;> exact ⟨rfl, rfl, rfl, rfl, rfl⟩

/-- What `DEC.FLUSH` leaves alone. -/
theorem decFlush_frame (s : State) :
    (decFlush s).cfg = s.cfg ∧ (decFlush s).ctl = s.ctl ∧ (decFlush s).tone = s.tone ∧ (decFlush s).sync = s.sync
      ∧ (decFlush s).env = s.env := by
  unfold decFlush; split <;> exact ⟨rfl, rfl, rfl, rfl, rfl⟩

/-- What `emit_bit` leaves alone: everything before the decoder. -/
theorem emitBit_frame (b : Bit) (s : State) :
    (emitBit b s).cfg = s.cfg ∧ (emitBit b s).ctl = s.ctl ∧ (emitBit b s).tone = s.tone
      ∧ (emitBit b s).sync = s.sync ∧ (emitBit b s).env = s.env := by
  unfold emitBit; exact decPush_frame _ _

/-- The key of a frame is its five data bits, however many stop bits have arrived (R66, R132). -/
theorem chunkChar_frameBits (start k0 k1 k2 k3 k4 : Bit) (stop1 stop2 : Option Bit) :
    chunkChar (Decode.frameBits start k0 k1 k2 k3 k4 stop1 stop2) = charOfKey [k0, k1, k2, k3, k4] := by
  cases stop1 <;> cases stop2 <;>
    simp [chunkChar, Decode.frameBits, chunkKey, slice, Config.lastDataPos, Config.firstDataPos]

/-- Every `CODE` row closes its own frame (R141 to R172): the 32 rows at once. -/
theorem exec_codeInstr (k0 k1 k2 k3 k4 start : Bit) (stop1 stop2 : Option Bit) (s : State) :
    exec (Decode.codeInstr k0 k1 k2 k3 k4 start stop1 stop2) s
      = .next (closeChunk (Decode.frameBits start k0 k1 k2 k3 k4 stop1 stop2) s) := by
  cases k0 <;> cases k1 <;> cases k2 <;> cases k3 <;> cases k4 <;> rfl

/-! ### bit_synchronizer -/

/-- `SYNC.EXTRACT` inside a window (R117 steps 1 and 2). -/
theorem syncExtract_open {b : Bit} {s : State} (h : s.sync.pos + 1 ≠ windowLength s.sync.w) :
    syncExtract b s = { s with sync := { s.sync with pos := s.sync.pos + 1, acc := voteSum b s.sync } } := by
  simp [syncExtract, h]

/-- `SYNC.EXTRACT` at a window's last symbol (R117 step 3). -/
theorem syncExtract_last {b : Bit} {s : State} (h : s.sync.pos + 1 = windowLength s.sync.w) :
    syncExtract b s = emitBit (decide (3 ≤ voteSum b s.sync))
      { s with sync := { s.sync with pos := 0, acc := 0, w := flipWindow s.sync.w } } := by
  simp [syncExtract, h, Config.voteThreshold]

/-- What `SYNC.EXTRACT` leaves alone, `ph` and the anchor included (R121). -/
theorem syncExtract_frame (b : Bit) (s : State) :
    (syncExtract b s).cfg = s.cfg ∧ (syncExtract b s).ctl = s.ctl ∧ (syncExtract b s).tone = s.tone
      ∧ (syncExtract b s).env = s.env ∧ (syncExtract b s).sync.ph = s.sync.ph
      ∧ (syncExtract b s).sync.anchor = s.sync.anchor := by
  unfold syncExtract
  split
  · obtain ⟨h1, h2, h3, h4, h5⟩ := emitBit_frame (decide (Config.voteThreshold ≤ voteSum b s.sync))
      { s with sync := { s.sync with pos := 0, acc := 0, w := flipWindow s.sync.w } }
    exact ⟨h1, h2, h3, h5, by rw [h4], by rw [h4]⟩
  · exact ⟨rfl, rfl, rfl, rfl, rfl, rfl⟩

/-- What `SYNC.STEP` leaves alone. -/
theorem syncStep_frame (b : Bit) (s : State) :
    (syncStep b s).cfg = s.cfg ∧ (syncStep b s).ctl = s.ctl ∧ (syncStep b s).tone = s.tone
      ∧ (syncStep b s).env = s.env := by
  unfold syncStep
  split
  · unfold syncSeekMark; split <;> exact ⟨rfl, rfl, rfl, rfl⟩
  · unfold syncSeekSpace; split <;> exact ⟨rfl, rfl, rfl, rfl⟩
  · obtain ⟨h1, h2, h3, h4, _, _⟩ := syncExtract_frame b s
    exact ⟨h1, h2, h3, h4⟩

/-- What `emit_sym` leaves alone: everything before the synchronizer. -/
theorem emitSym_frame (b : Bit) (s : State) :
    (emitSym b s).cfg = s.cfg ∧ (emitSym b s).ctl = s.ctl ∧ (emitSym b s).tone = s.tone
      ∧ (emitSym b s).env = s.env := by
  unfold emitSym; exact syncStep_frame _ _

/-- `SYNC.END` (R119). -/
theorem syncEnd_cases (s : State) :
    (s.sync.ph = .extract ∧ syncEnd s = .ok s)
      ∨ (s.sync.ph ≠ .extract ∧ syncEnd s = .error (raise .syncNotFound s)) := by
  by_cases h : s.sync.ph = .extract <;> simp [syncEnd, h]

/-! ### tone_detector -/

/-- The tone_detector group after `FCLOSE` (R86 steps 1 to 3). -/
theorem fclose_tone (s : State) : (fclose s).tone = closedTone (frameFlags s) s.tone := by
  unfold fclose; exact (emitSym_frame _ _).2.2.1

/-- What `FCLOSE` leaves alone. -/
theorem fclose_frame (s : State) :
    (fclose s).cfg = s.cfg ∧ (fclose s).ctl = s.ctl ∧ (fclose s).env = s.env := by
  unfold fclose
  obtain ⟨h1, h2, _, h4⟩ := emitSym_frame (fbx (frameFlags s).1 (frameFlags s).2)
    { s with tone := closedTone (frameFlags s) s.tone }
  exact ⟨h1, h2, h4⟩

/-- Everything `GSTEP` can do (R85). -/
theorem gstep_cases (x : NumQ) (s : State) :
    (((s.tone.n + 1 : Nat) : Int) = frameSize s ∧ gstep x s = fclose (takeSample x s))
      ∨ (((s.tone.n + 1 : Nat) : Int) ≠ frameSize s ∧ gstep x s = takeSample x s) := by
  by_cases h : ((s.tone.n + 1 : Nat) : Int) = frameSize s
  · exact .inl ⟨h, by unfold gstep; exact if_pos h⟩
  · exact .inr ⟨h, by unfold gstep; exact if_neg h⟩

/-- What `GSTEP` leaves alone. -/
theorem gstep_frame (x : NumQ) (s : State) :
    (gstep x s).cfg = s.cfg ∧ (gstep x s).ctl = s.ctl ∧ (gstep x s).env = s.env := by
  obtain ⟨_, h⟩ | ⟨_, h⟩ := gstep_cases x s <;> rw [h]
  · exact fclose_frame (takeSample x s)
  · exact ⟨rfl, rfl, rfl⟩

/-! ### The meanings of START and END -/

/-- `missesValue` in words (R185 steps 2 and 3). -/
theorem missesValue_iff (c : Cfg) :
    missesValue c = true ↔
      c.src = .samples ∧ (c.coeffMark = none ∨ c.coeffSpace = none ∨ (c.abs = b1 ∧ c.thresh = none)) := by
  cases hs : c.src <;> simp [missesValue, hs, or_assoc]

/-- Everything `START` can do (R185). -/
theorem execStart_cases (s : State) :
    ((s.ctl.run = .run ∨ missesValue s.cfg = true) ∧ execStart s = .next (refuse s))
      ∨ (s.ctl.run ≠ .run ∧ missesValue s.cfg = false ∧ (s.cfg.src = .samples ∧ frameSize s ≤ 0)
          ∧ execStart s = .next (raise .invalidFrameSize (clearRun s)))
      ∨ (s.ctl.run ≠ .run ∧ missesValue s.cfg = false ∧ ¬(s.cfg.src = .samples ∧ frameSize s ≤ 0)
          ∧ execStart s = .next (setRun .run (clearRun s))) := by
  by_cases h1 : s.ctl.run = .run
  · exact .inl ⟨.inl h1, by simp [execStart, h1]⟩
  · cases h2 : missesValue s.cfg
    · by_cases h3 : s.cfg.src = .samples ∧ frameSize s ≤ 0
      · exact .inr (.inl ⟨h1, rfl, h3, by simp [execStart, h1, h2, h3]⟩)
      · exact .inr (.inr ⟨h1, rfl, h3, by simp only [execStart, h1, h2, h3, if_false]; simp⟩)
    · exact .inl ⟨.inr rfl, by simp [execStart, h1, h2]⟩

/-- Everything `END` can do (R189). -/
theorem execEndRun_cases (s : State) :
    (s.ctl.run ≠ .run ∧ execEndRun s = .next (refuse s))
      ∨ (s.ctl.run = .run ∧ (s.cfg.src = .samples ∧ s.tone.seen = b0)
          ∧ execEndRun s = .next (raise .invalidFrameSize s))
      ∨ (s.ctl.run = .run ∧ ¬(s.cfg.src = .samples ∧ s.tone.seen = b0) ∧ s.cfg.src ≠ .bits
          ∧ (closeShortFrame s).sync.ph ≠ .extract
          ∧ execEndRun s = .next (raise .syncNotFound (closeShortFrame s)))
      ∨ (s.ctl.run = .run ∧ ¬(s.cfg.src = .samples ∧ s.tone.seen = b0)
          ∧ (s.cfg.src = .bits ∨ (closeShortFrame s).sync.ph = .extract)
          ∧ execEndRun s = .next (setRun .done (decFlush (closeShortFrame s)))) := by
  have hc : (closeShortFrame s).cfg = s.cfg := by
    unfold closeShortFrame; split
    · exact (fclose_frame s).1
    · rfl
  by_cases h1 : s.ctl.run = .run
  · by_cases h2 : s.cfg.src = .samples ∧ s.tone.seen = b0
    · exact .inr (.inl ⟨h1, h2, by simp [execEndRun, h1, h2]⟩)
    · by_cases h3 : s.cfg.src = .bits
      · refine .inr (.inr (.inr ⟨h1, h2, .inl h3, ?_⟩))
        simp [execEndRun, h1, h3, checkSync, hc]
      · by_cases h4 : (closeShortFrame s).sync.ph = .extract
        · refine .inr (.inr (.inr ⟨h1, h2, .inr h4, ?_⟩))
          simp only [execEndRun, h1, ne_eq, not_true_eq_false, if_false, h2, checkSync, hc, h3, syncEnd, h4, if_true]
        · refine .inr (.inr (.inl ⟨h1, h2, h3, h4, ?_⟩))
          simp only [execEndRun, h1, ne_eq, not_true_eq_false, if_false, h2, checkSync, hc, h3, syncEnd, h4]
  · exact .inl ⟨h1, by simp [execEndRun, h1]⟩

/-! ### Step -/

/-- A step with nothing at the port (R219). -/
theorem step_idle {s : State} (h : s.env.pending = []) : step s = .next s := by
  simp [step, h]

/-- `exec` always answers a next state (R180: the step function is total). -/
theorem exec_next (i : Instr) (s : State) : ∃ t, exec i s = .next t := by
  cases i
  case start => obtain ⟨_, h⟩ | ⟨_, _, _, h⟩ | ⟨_, _, _, h⟩ := execStart_cases s <;> exact ⟨_, h⟩
  case endRun =>
    obtain ⟨_, h⟩ | ⟨_, _, h⟩ | ⟨_, _, _, _, h⟩ | ⟨_, _, _, h⟩ := execEndRun_cases s <;> exact ⟨_, h⟩
  case cfgMode abs src => 
    simp only [exec, execCfgMode]
    split <;> exact ⟨_, rfl⟩
  all_goals exact ⟨_, rfl⟩

end Sys2Proof.Machine
end

