-- ==== Sys2Proof/Laws/PerInstr.lean ====
section
/-!
SUPPORT. The per-instruction family `EncodeFormat`: an instruction is encoded in the format its row of
spec/opcode_table.json names (R60).
-/

namespace Sys2Proof

/-- The format of a stimulus (R60). -/
def Stimulus.format : Stimulus → Format
  | .cmd _ => .cmd
  | .flags _ => .flags
  | .symbol _ _ => .symbol
  | .window _ => .window
  | .charFrame _ => .charFrame
  | .call _ => .internal

namespace Laws.EncodeFormat

/-- The encoding of `i` has the format of its row. -/
def Statement (i : Instr) : Prop := (encode i).format = i.format

theorem nop : Statement .nop := rfl
theorem cfgFrameSize (data : Word32) : Statement (.cfgFrameSize data) := rfl
theorem cfgCoeffMark (data : Word32) : Statement (.cfgCoeffMark data) := rfl
theorem cfgCoeffSpace (data : Word32) : Statement (.cfgCoeffSpace data) := rfl
theorem cfgMode (abs : Bit) (src : BitVec 2) : Statement (.cfgMode abs src) := rfl
theorem cfgThresh (data : Word32) : Statement (.cfgThresh data) := rfl
theorem cfgReserved5 : Statement .cfgReserved5 := rfl
theorem cfgReserved6 : Statement .cfgReserved6 := rfl
theorem cfgReserved7 : Statement .cfgReserved7 := rfl
theorem cfgStatus : Statement .cfgStatus := rfl
theorem cfgSymbolCount : Statement .cfgSymbolCount := rfl
theorem cfgBitCount : Statement .cfgBitCount := rfl
theorem cfgCharCount : Statement .cfgCharCount := rfl
theorem cfgSyncAnchor : Statement .cfgSyncAnchor := rfl
theorem cfgReservedD : Statement .cfgReservedD := rfl
theorem cfgReservedE : Statement .cfgReservedE := rfl
theorem cfgReservedF : Statement .cfgReservedF := rfl
theorem start : Statement .start := rfl
theorem sample (data : Word32) : Statement (.sample data) := rfl
theorem sym (b : Bit) : Statement (.sym b) := rfl
theorem bit (b : Bit) : Statement (.bit b) := rfl
theorem endRun : Statement .endRun := rfl
theorem rdFrameSize : Statement .rdFrameSize := rfl
theorem rdCoeffMark : Statement .rdCoeffMark := rfl
theorem rdCoeffSpace : Statement .rdCoeffSpace := rfl
theorem rdMode : Statement .rdMode := rfl
theorem rdThresh : Statement .rdThresh := rfl
theorem rdReserved5 : Statement .rdReserved5 := rfl
theorem rdReserved6 : Statement .rdReserved6 := rfl
theorem rdReserved7 : Statement .rdReserved7 := rfl
theorem rdStatus : Statement .rdStatus := rfl
theorem rdSymbolCount : Statement .rdSymbolCount := rfl
theorem rdBitCount : Statement .rdBitCount := rfl
theorem rdCharCount : Statement .rdCharCount := rfl
theorem rdSyncAnchor : Statement .rdSyncAnchor := rfl
theorem rdReservedD : Statement .rdReservedD := rfl
theorem rdReservedE : Statement .rdReservedE := rfl
theorem rdReservedF : Statement .rdReservedF := rfl
theorem reservedOp8 : Statement .reservedOp8 := rfl
theorem reservedOp9 : Statement .reservedOp9 := rfl
theorem reservedOpA : Statement .reservedOpA := rfl
theorem reservedOpB : Statement .reservedOpB := rfl
theorem reservedOpC : Statement .reservedOpC := rfl
theorem reservedOpD : Statement .reservedOpD := rfl
theorem reservedOpE : Statement .reservedOpE := rfl
theorem rst : Statement .rst := rfl
theorem fbx00 : Statement .fbx00 := rfl
theorem fbx01 : Statement .fbx01 := rfl
theorem fbx10 : Statement .fbx10 := rfl
theorem fbx11 : Statement .fbx11 := rfl
theorem syncSeekMark (b : Bit) : Statement (.syncSeekMark b) := rfl
theorem syncSeekSpace (b : Bit) : Statement (.syncSeekSpace b) := rfl
theorem syncExtractW7 (w : List Bit) : Statement (.syncExtractW7 w) := rfl
theorem syncExtractW8 (w : List Bit) : Statement (.syncExtractW8 w) := rfl
theorem codeNul (start : Bit) (stop1 stop2 : Option Bit) : Statement (.codeNul start stop1 stop2) := rfl
theorem codeSpace (start : Bit) (stop1 stop2 : Option Bit) : Statement (.codeSpace start stop1 stop2) := rfl
theorem codeQ (start : Bit) (stop1 stop2 : Option Bit) : Statement (.codeQ start stop1 stop2) := rfl
theorem codeW (start : Bit) (stop1 stop2 : Option Bit) : Statement (.codeW start stop1 stop2) := rfl
theorem codeE (start : Bit) (stop1 stop2 : Option Bit) : Statement (.codeE start stop1 stop2) := rfl
theorem codeR (start : Bit) (stop1 stop2 : Option Bit) : Statement (.codeR start stop1 stop2) := rfl
theorem codeT (start : Bit) (stop1 stop2 : Option Bit) : Statement (.codeT start stop1 stop2) := rfl
theorem codeY (start : Bit) (stop1 stop2 : Option Bit) : Statement (.codeY start stop1 stop2) := rfl
theorem codeU (start : Bit) (stop1 stop2 : Option Bit) : Statement (.codeU start stop1 stop2) := rfl
theorem codeI (start : Bit) (stop1 stop2 : Option Bit) : Statement (.codeI start stop1 stop2) := rfl
theorem codeO (start : Bit) (stop1 stop2 : Option Bit) : Statement (.codeO start stop1 stop2) := rfl
theorem codeP (start : Bit) (stop1 stop2 : Option Bit) : Statement (.codeP start stop1 stop2) := rfl
theorem codeA (start : Bit) (stop1 stop2 : Option Bit) : Statement (.codeA start stop1 stop2) := rfl
theorem codeS (start : Bit) (stop1 stop2 : Option Bit) : Statement (.codeS start stop1 stop2) := rfl
theorem codeD (start : Bit) (stop1 stop2 : Option Bit) : Statement (.codeD start stop1 stop2) := rfl
theorem codeF (start : Bit) (stop1 stop2 : Option Bit) : Statement (.codeF start stop1 stop2) := rfl
theorem codeG (start : Bit) (stop1 stop2 : Option Bit) : Statement (.codeG start stop1 stop2) := rfl
theorem codeH (start : Bit) (stop1 stop2 : Option Bit) : Statement (.codeH start stop1 stop2) := rfl
theorem codeJ (start : Bit) (stop1 stop2 : Option Bit) : Statement (.codeJ start stop1 stop2) := rfl
theorem codeK (start : Bit) (stop1 stop2 : Option Bit) : Statement (.codeK start stop1 stop2) := rfl
theorem codeL (start : Bit) (stop1 stop2 : Option Bit) : Statement (.codeL start stop1 stop2) := rfl
theorem codeZ (start : Bit) (stop1 stop2 : Option Bit) : Statement (.codeZ start stop1 stop2) := rfl
theorem codeX (start : Bit) (stop1 stop2 : Option Bit) : Statement (.codeX start stop1 stop2) := rfl
theorem codeC (start : Bit) (stop1 stop2 : Option Bit) : Statement (.codeC start stop1 stop2) := rfl
theorem codeV (start : Bit) (stop1 stop2 : Option Bit) : Statement (.codeV start stop1 stop2) := rfl
theorem codeB (start : Bit) (stop1 stop2 : Option Bit) : Statement (.codeB start stop1 stop2) := rfl
theorem codeN (start : Bit) (stop1 stop2 : Option Bit) : Statement (.codeN start stop1 stop2) := rfl
theorem codeM (start : Bit) (stop1 stop2 : Option Bit) : Statement (.codeM start stop1 stop2) := rfl
theorem codeCr (start : Bit) (stop1 stop2 : Option Bit) : Statement (.codeCr start stop1 stop2) := rfl
theorem codeLf (start : Bit) (stop1 stop2 : Option Bit) : Statement (.codeLf start stop1 stop2) := rfl
theorem codeUnmapped11011 (start : Bit) (stop1 stop2 : Option Bit) : Statement (.codeUnmapped11011 start stop1 stop2) := rfl
theorem codeUnmapped11111 (start : Bit) (stop1 stop2 : Option Bit) : Statement (.codeUnmapped11111 start stop1 stop2) := rfl
theorem codeShort1 (chunk : List Bit) : Statement (.codeShort1 chunk) := rfl
theorem codeShort2 (chunk : List Bit) : Statement (.codeShort2 chunk) := rfl
theorem codeShort3 (chunk : List Bit) : Statement (.codeShort3 chunk) := rfl
theorem codeShort4 (chunk : List Bit) : Statement (.codeShort4 chunk) := rfl
theorem codeShort5 (chunk : List Bit) : Statement (.codeShort5 chunk) := rfl
theorem gstep (x : NumQ) : Statement (.gstep x) := rfl
theorem fclose : Statement .fclose := rfl
theorem syncStep (b : Bit) : Statement (.syncStep b) := rfl
theorem syncEnd : Statement .syncEnd := rfl
theorem decPush (b : Bit) : Statement (.decPush b) := rfl
theorem decEmit : Statement .decEmit := rfl
theorem decFlush : Statement .decFlush := rfl

end Laws.EncodeFormat

end Sys2Proof
end

