-- ==== Sys2Proof/Tests/Slice0.lean ====
section
/-!
SUPPORT. Tests: ill-formed terms refused, words decoded, single steps with results taken from the spec (the section or the
example is named), the counterexample behind log entry 10, and for every statement with hypotheses a state that meets
them.
-/

namespace Sys2Proof.Tests

/- The tests are checked one after another: in parallel their many small kernel checks open too many threads. -/
set_option Elab.async false

open Sys2Proof Sys2Proof.Machine

/-! ### Helpers -/

/-- The next state of a step that takes `x`. -/
def after (x : Stimulus) (s : State) : Option State :=
  match step (placeStimulus x s) with
  | .next t => some t
  | _ => none

/-- A value read off that next state. -/
def see {α : Type} (x : Stimulus) (s : State) (f : State → α) : Option α := (after x s).map f

/-- Both coefficients written and `FRAME_SIZE = 12`, as the programs P4 and P5 do: 0 for the mark, 1 for the space. -/
def tuned : State :=
  { State.reset with cfg := { Cfg.reset with frameSize := 12, coeffMark := some 0, coeffSpace := some 0x10000 } }

/-- A state in another `run` state. -/
def inRun (r : RunState) (s : State) : State := { s with ctl := { s.ctl with run := r } }

/-- A state with another source. -/
def withSrc (x : Source) (s : State) : State := { s with cfg := { s.cfg with src := x } }

/-- A state with another frame size word. -/
def withSize (w : Word32) (s : State) : State := { s with cfg := { s.cfg with frameSize := w } }

/-- An open sample run, an open symbol run and an open bit run. -/
def sampling : State := inRun .run tuned

/-- See `sampling`. -/
def symRun : State := inRun .run (withSrc .symbols State.reset)

/-- See `sampling`. -/
def bitRun : State := inRun .run (withSrc .bits State.reset)

/-- A synchronised symbol run at position `p` of a window of length `x`, with `v` votes and `q` BaudotBits emitted. -/
def synced (x : WindowLen) (p v q : Nat) : State :=
  { symRun with
    sync := { ph := .extract, pos := p, w := x, acc := v, anchor := 2 }
    cnt := { symRun.cnt with nsym := 2 + windowSpan q + p, nbit := q } }

/-- A bit run with an open chunk. -/
def chunk (k : Nat) (key : List Bit) : State := { bitRun with dec := { k := k, key := key } }

/-- A state with the given inputs at its port. -/
def waiting (l : List Input) : State := { State.reset with env := { Env.reset with pending := l } }

/-! ### WellFormed: each check refuses an ill-formed term -/

theorem test_wf_window7 : (Instr.syncExtractW7 [b0, b1, b1, b1, b0, b0]).wellFormed = false
    ∧ (Instr.syncExtractW7 [b0, b1, b1, b1, b0, b0, b0, b0]).wellFormed = false := by decide
theorem test_wf_window8 : (Instr.syncExtractW8 [b0, b1, b1, b1, b0, b0, b0]).wellFormed = false := by decide
theorem test_wf_short1 : (Instr.codeShort1 []).wellFormed = false := by decide
theorem test_wf_short2 : (Instr.codeShort2 [b1]).wellFormed = false := by decide
theorem test_wf_short3 : (Instr.codeShort3 [b1, b1]).wellFormed = false := by decide
theorem test_wf_short4 : (Instr.codeShort4 [b1, b1, b1, b0, b0]).wellFormed = false := by decide
theorem test_wf_short5 : (Instr.codeShort5 [b1, b1, b1, b0, b0, b0]).wellFormed = false := by decide
theorem test_wf_stops : (Instr.codeR b0 none (some b1)).wellFormed = false := by decide
theorem test_wf_accepts : (Instr.syncExtractW7 [b0, b1, b1, b1, b0, b0, b0]).wellFormed = true
    ∧ (Instr.codeR b0 (some b1) none).wellFormed = true
    ∧ (Instr.codeShort1 [b1]).wellFormed = true ∧ Instr.start.wellFormed = true := by decide

/-! ### Decoding: words written out from the spec's encodings -/

/-- 95_test_vectors.md 2.1, R62: every operation. -/
theorem test_decode_plain :
    decodeTableWord 40 0x0000000000 = some (.nop)
    ∧ decodeTableWord 40 0x2000000000 = some (.start)
    ∧ decodeTableWord 40 0x3000010000 = some (.sample 0x00010000)
    ∧ decodeTableWord 40 0x30FFFF8000 = some (.sample 0xFFFF8000)
    ∧ decodeTableWord 40 0x4000000001 = some (.sym b1)
    ∧ decodeTableWord 40 0x5000000000 = some (.bit b0)
    ∧ decodeTableWord 40 0x5000000001 = some (.bit b1)
    ∧ decodeTableWord 40 0x6000000000 = some (.endRun)
    ∧ decodeTableWord 40 0xF000000000 = some (.rst) := by
  decide

/-- 95_test_vectors.md 2.1: "Non-canonical words decode by `op` alone". -/
theorem test_decode_ignored_fields :
    decodeTableWord 40 0x2ABCDEF012 = some (.start)
    ∧ decodeTableWord 40 0x4F00000003 = some (.sym b1)
    ∧ decodeTableWord 40 0x4F00000002 = some (.sym b0)
    ∧ decodeTableWord 40 0xEFFFFFFFFF = some (.reservedOpE) := by
  decide

/-- 95_test_vectors.md 2.1: `CFG` to the five writable registers. -/
theorem test_decode_cfg_written :
    decodeTableWord 40 0x10FFFFFFFF = some (.cfgFrameSize 0xFFFFFFFF)
    ∧ decodeTableWord 40 0x11FFFFCDD1 = some (.cfgCoeffMark 0xFFFFCDD1)
    ∧ decodeTableWord 40 0x1200010000 = some (.cfgCoeffSpace 0x00010000)
    ∧ decodeTableWord 40 0x1300000001 = some (.cfgMode b1 0)
    ∧ decodeTableWord 40 0x1300000002 = some (.cfgMode b0 1)
    ∧ decodeTableWord 40 0x1300000004 = some (.cfgMode b0 2)
    ∧ decodeTableWord 40 0x1300000006 = some (.cfgMode b0 3)
    ∧ decodeTableWord 40 0x14000A0000 = some (.cfgThresh 0x000A0000) := by
  decide

/-- R30, R61: `CFG` to the reserved and the read-only indices. -/
theorem test_decode_cfg_others :
    decodeTableWord 40 0x1500000000 = some (.cfgReserved5)
    ∧ decodeTableWord 40 0x1600000000 = some (.cfgReserved6)
    ∧ decodeTableWord 40 0x1700000000 = some (.cfgReserved7)
    ∧ decodeTableWord 40 0x1800000000 = some (.cfgStatus)
    ∧ decodeTableWord 40 0x1900000000 = some (.cfgSymbolCount)
    ∧ decodeTableWord 40 0x1A00000000 = some (.cfgBitCount)
    ∧ decodeTableWord 40 0x1B00000000 = some (.cfgCharCount)
    ∧ decodeTableWord 40 0x1C00000000 = some (.cfgSyncAnchor)
    ∧ decodeTableWord 40 0x1D00000000 = some (.cfgReservedD)
    ∧ decodeTableWord 40 0x1E00000000 = some (.cfgReservedE)
    ∧ decodeTableWord 40 0x1F00000000 = some (.cfgReservedF) := by
  decide

/-- R30, R61: `RD` of the sixteen indices. -/
theorem test_decode_rd :
    decodeTableWord 40 0x7000000000 = some (.rdFrameSize)
    ∧ decodeTableWord 40 0x7100000000 = some (.rdCoeffMark)
    ∧ decodeTableWord 40 0x7200000000 = some (.rdCoeffSpace)
    ∧ decodeTableWord 40 0x7300000000 = some (.rdMode)
    ∧ decodeTableWord 40 0x7400000000 = some (.rdThresh)
    ∧ decodeTableWord 40 0x7500000000 = some (.rdReserved5)
    ∧ decodeTableWord 40 0x7600000000 = some (.rdReserved6)
    ∧ decodeTableWord 40 0x7700000000 = some (.rdReserved7)
    ∧ decodeTableWord 40 0x7800000000 = some (.rdStatus)
    ∧ decodeTableWord 40 0x7900000000 = some (.rdSymbolCount)
    ∧ decodeTableWord 40 0x7A00000000 = some (.rdBitCount)
    ∧ decodeTableWord 40 0x7B00000000 = some (.rdCharCount)
    ∧ decodeTableWord 40 0x7C00000000 = some (.rdSyncAnchor)
    ∧ decodeTableWord 40 0x7D00000000 = some (.rdReservedD)
    ∧ decodeTableWord 40 0x7E00000000 = some (.rdReservedE)
    ∧ decodeTableWord 40 0x7F00000000 = some (.rdReservedF) := by
  decide

/-- R69: the reserved operations. -/
theorem test_decode_reserved_ops :
    decodeTableWord 40 0x8000000000 = some (.reservedOp8)
    ∧ decodeTableWord 40 0x9000000000 = some (.reservedOp9)
    ∧ decodeTableWord 40 0xA000000000 = some (.reservedOpA)
    ∧ decodeTableWord 40 0xB000000000 = some (.reservedOpB)
    ∧ decodeTableWord 40 0xC000000000 = some (.reservedOpC)
    ∧ decodeTableWord 40 0xD000000000 = some (.reservedOpD)
    ∧ decodeTableWord 40 0xE000000000 = some (.reservedOpE) := by
  decide

/-- R64: bit 1 is markPresent, bit 0 spacePresent. -/
theorem test_decode_flags :
    decode (.flags 0b00) = .ok .fbx00
    ∧ decode (.flags 0b01) = .ok .fbx01
    ∧ decode (.flags 0b10) = .ok .fbx10
    ∧ decode (.flags 0b11) = .ok .fbx11 := by
  decide

/-- R115, R116, R65; no row for other lengths (log entry 11). -/
theorem test_decode_symbol_and_window :
    decode (.symbol false b1) = .ok (.syncSeekMark b1)
    ∧ decode (.symbol true b0) = .ok (.syncSeekSpace b0)
    ∧ decode (.window [b1, b0, b1, b1, b0, b0, b1]) = .ok (.syncExtractW7 [b1, b0, b1, b1, b0, b0, b1])
    ∧ decode (.window [b1, b0, b0, b1, b1, b0, b1, b1]) = .ok (.syncExtractW8 [b1, b0, b0, b1, b1, b0, b1, b1])
    ∧ decode (.window [b1]) = .error (.windowLength 1) := by
  decide

/-- The INTERNAL rows are called by name; a row with an encoding is not. -/
theorem test_decode_calls :
    decode (.call (.gstep 1)) = .ok (.gstep 1)
    ∧ decode (.call .fclose) = .ok .fclose
    ∧ decode (.call (.syncStep b1)) = .ok (.syncStep b1)
    ∧ decode (.call .syncEnd) = .ok .syncEnd
    ∧ decode (.call (.decPush b0)) = .ok (.decPush b0)
    ∧ decode (.call .decEmit) = .ok .decEmit
    ∧ decode (.call .decFlush) = .ok .decFlush
    ∧ decode (.call .start) = .error .notInternal := by
  decide +kernel

/-- R173, R66: a chunk of 1 to 5; none and 9 BaudotBits are no chunk (log entry 11). -/
theorem test_decode_short :
    decode (.charFrame [b1]) = .ok (.codeShort1 [b1])
    ∧ decode (.charFrame [b0, b1]) = .ok (.codeShort2 [b0, b1])
    ∧ decode (.charFrame [b0, b1, b0]) = .ok (.codeShort3 [b0, b1, b0])
    ∧ decode (.charFrame [b0, b1, b0, b1]) = .ok (.codeShort4 [b0, b1, b0, b1])
    ∧ decode (.charFrame [b0, b0, b1, b0, b1]) = .ok (.codeShort5 [b0, b0, b1, b0, b1])
    ∧ decode (.charFrame []) = .error (.chunkLength 0)
    ∧ decode (.charFrame [b0, b0, b1, b0, b1, b0, b1, b1, b0]) = .error (.chunkLength 9) := by
  decide

/-- 95_test_vectors.md table 6.1, both frames of each entry. -/
theorem test_decode_frames_1 :
    decodeTableWord 8 0b00000011 = some (.codeNul b0 (some b1) (some b1)) ∧ decodeTableWord 8 0b10000000 = some (.codeNul b1 (some b0) (some b0))
    ∧ decodeTableWord 8 0b00010011 = some (.codeSpace b0 (some b1) (some b1)) ∧ decodeTableWord 8 0b10010000 = some (.codeSpace b1 (some b0) (some b0))
    ∧ decodeTableWord 8 0b01011111 = some (.codeQ b0 (some b1) (some b1)) ∧ decodeTableWord 8 0b11011100 = some (.codeQ b1 (some b0) (some b0))
    ∧ decodeTableWord 8 0b01001111 = some (.codeW b0 (some b1) (some b1)) ∧ decodeTableWord 8 0b11001100 = some (.codeW b1 (some b0) (some b0))
    ∧ decodeTableWord 8 0b00000111 = some (.codeE b0 (some b1) (some b1)) ∧ decodeTableWord 8 0b10000100 = some (.codeE b1 (some b0) (some b0))
    ∧ decodeTableWord 8 0b00101011 = some (.codeR b0 (some b1) (some b1)) ∧ decodeTableWord 8 0b10101000 = some (.codeR b1 (some b0) (some b0))
    ∧ decodeTableWord 8 0b01000011 = some (.codeT b0 (some b1) (some b1)) ∧ decodeTableWord 8 0b11000000 = some (.codeT b1 (some b0) (some b0))
    ∧ decodeTableWord 8 0b01010111 = some (.codeY b0 (some b1) (some b1)) ∧ decodeTableWord 8 0b11010100 = some (.codeY b1 (some b0) (some b0))
    ∧ decodeTableWord 8 0b00011111 = some (.codeU b0 (some b1) (some b1)) ∧ decodeTableWord 8 0b10011100 = some (.codeU b1 (some b0) (some b0))
    ∧ decodeTableWord 8 0b00011011 = some (.codeI b0 (some b1) (some b1)) ∧ decodeTableWord 8 0b10011000 = some (.codeI b1 (some b0) (some b0)) := by
  decide

/-- 95_test_vectors.md table 6.1, both frames of each entry. -/
theorem test_decode_frames_2 :
    decodeTableWord 8 0b01100011 = some (.codeO b0 (some b1) (some b1)) ∧ decodeTableWord 8 0b11100000 = some (.codeO b1 (some b0) (some b0))
    ∧ decodeTableWord 8 0b01011011 = some (.codeP b0 (some b1) (some b1)) ∧ decodeTableWord 8 0b11011000 = some (.codeP b1 (some b0) (some b0))
    ∧ decodeTableWord 8 0b00001111 = some (.codeA b0 (some b1) (some b1)) ∧ decodeTableWord 8 0b10001100 = some (.codeA b1 (some b0) (some b0))
    ∧ decodeTableWord 8 0b00010111 = some (.codeS b0 (some b1) (some b1)) ∧ decodeTableWord 8 0b10010100 = some (.codeS b1 (some b0) (some b0))
    ∧ decodeTableWord 8 0b00100111 = some (.codeD b0 (some b1) (some b1)) ∧ decodeTableWord 8 0b10100100 = some (.codeD b1 (some b0) (some b0))
    ∧ decodeTableWord 8 0b00110111 = some (.codeF b0 (some b1) (some b1)) ∧ decodeTableWord 8 0b10110100 = some (.codeF b1 (some b0) (some b0))
    ∧ decodeTableWord 8 0b01101011 = some (.codeG b0 (some b1) (some b1)) ∧ decodeTableWord 8 0b11101000 = some (.codeG b1 (some b0) (some b0))
    ∧ decodeTableWord 8 0b01010011 = some (.codeH b0 (some b1) (some b1)) ∧ decodeTableWord 8 0b11010000 = some (.codeH b1 (some b0) (some b0))
    ∧ decodeTableWord 8 0b00101111 = some (.codeJ b0 (some b1) (some b1)) ∧ decodeTableWord 8 0b10101100 = some (.codeJ b1 (some b0) (some b0))
    ∧ decodeTableWord 8 0b00111111 = some (.codeK b0 (some b1) (some b1)) ∧ decodeTableWord 8 0b10111100 = some (.codeK b1 (some b0) (some b0)) := by
  decide

/-- 95_test_vectors.md table 6.1, both frames of each entry. -/
theorem test_decode_frames_3 :
    decodeTableWord 8 0b01001011 = some (.codeL b0 (some b1) (some b1)) ∧ decodeTableWord 8 0b11001000 = some (.codeL b1 (some b0) (some b0))
    ∧ decodeTableWord 8 0b01000111 = some (.codeZ b0 (some b1) (some b1)) ∧ decodeTableWord 8 0b11000100 = some (.codeZ b1 (some b0) (some b0))
    ∧ decodeTableWord 8 0b01110111 = some (.codeX b0 (some b1) (some b1)) ∧ decodeTableWord 8 0b11110100 = some (.codeX b1 (some b0) (some b0))
    ∧ decodeTableWord 8 0b00111011 = some (.codeC b0 (some b1) (some b1)) ∧ decodeTableWord 8 0b10111000 = some (.codeC b1 (some b0) (some b0))
    ∧ decodeTableWord 8 0b01111011 = some (.codeV b0 (some b1) (some b1)) ∧ decodeTableWord 8 0b11111000 = some (.codeV b1 (some b0) (some b0))
    ∧ decodeTableWord 8 0b01100111 = some (.codeB b0 (some b1) (some b1)) ∧ decodeTableWord 8 0b11100100 = some (.codeB b1 (some b0) (some b0))
    ∧ decodeTableWord 8 0b00110011 = some (.codeN b0 (some b1) (some b1)) ∧ decodeTableWord 8 0b10110000 = some (.codeN b1 (some b0) (some b0))
    ∧ decodeTableWord 8 0b01110011 = some (.codeM b0 (some b1) (some b1)) ∧ decodeTableWord 8 0b11110000 = some (.codeM b1 (some b0) (some b0))
    ∧ decodeTableWord 8 0b00100011 = some (.codeCr b0 (some b1) (some b1)) ∧ decodeTableWord 8 0b10100000 = some (.codeCr b1 (some b0) (some b0))
    ∧ decodeTableWord 8 0b00001011 = some (.codeLf b0 (some b1) (some b1)) ∧ decodeTableWord 8 0b10001000 = some (.codeLf b1 (some b0) (some b0)) := by
  decide

/-- R171, R172. -/
theorem test_decode_unmapped :
    decodeTableWord 8 0b01101111 = some (.codeUnmapped11011 b0 (some b1) (some b1))
    ∧ decodeTableWord 8 0b11111111 = some (.codeUnmapped11111 b1 (some b1) (some b1))
    ∧ decodeTableWord 0 0 = none := by
  decide

/-- R66: `keyreg` spells the key as a binary number, position 1 first. -/
theorem test_keyreg_spells_the_key :
    keyReg [b0, b1, b0, b1, b0] = 0b01010 ∧ keyReg [b1, b0, b1, b0, b1] = 0b10101 ∧ keyReg [b1, b1] = 0b00011 := by
  decide

/-! ### Single steps: results from the spec's examples -/

/-- R182: `rej` included. -/
theorem test_nop : after (.cmd 0) { State.reset with ctl := { Control.reset with rej := b1 } }
    = some { State.reset with ctl := { Control.reset with rej := b1 }, env := { Env.reset with free := 1 } } := by
  decide +kernel

/-- P6 row 23. -/
theorem test_rst : see (.cmd 0xF000000000) (inRun .err tuned) (fun s => (s.cfg, s.ctl)) = some (Cfg.reset, Control.reset) := by
  decide +kernel

/-- R230. -/
theorem test_reset_pin : (match step (waiting [.resetPin]) with | .next t => t.env.pending | _ => [.resetPin]) = [] := by
  decide +kernel

/-- Section 7: `CFG FRAME_SIZE, -1` is stored. -/
theorem test_cfg_frame_size : see (.cmd 0x10FFFFFFFF) State.reset frameSize = some (-1) := by
  decide +kernel

/-- 95_test_vectors.md 2.1: -12847/65536. -/
theorem test_cfg_coeff_mark : see (.cmd 0x11FFFFCDD1) State.reset (coeff .mark) = some (-12847 / 65536) := by
  decide +kernel

/-- 95_test_vectors.md 2.1: `q16 = 1`; R30 reads the word back. -/
theorem test_cfg_coeff_space : see (.cmd 0x1200010000) State.reset (fun s => (coeff .space s, optionWord s.cfg.coeffSpace)) = some (1, 0x10000) := by
  decide +kernel

/-- R14: both fields; R183: 3 is refused whole. -/
theorem test_cfg_mode : see (.cmd 0x1300000005) State.reset (fun s => (s.cfg.abs, s.cfg.src)) = some (b1, .bits)
    ∧ see (.cmd 0x1300000007) State.reset (fun s => (s.cfg.abs, s.cfg.src, s.ctl.rej)) = some (b0, .samples, b1) := by
  decide +kernel

/-- 95_test_vectors.md 2.1: `q16 = 10`. -/
theorem test_cfg_thresh : see (.cmd 0x14000A0000) State.reset threshold = some 10 := by
  decide +kernel

/-- R183: reserved and read-only registers. -/
theorem test_cfg_refused_indices : [5, 6, 7, 8, 9, 10, 11, 12, 13, 14, 15].all (fun r =>
      see (.cmd (0x1#4 ++ BitVec.ofNat 4 r ++ 1#32)) State.reset (fun s => (s.cfg, s.ctl.rej)) == some (Cfg.reset, b1)) = true := by
  decide +kernel

/-- P6 row 11. -/
theorem test_cfg_refused_in_run : see (.cmd 0x1000000006) sampling (fun s => (s.cfg.frameSize, s.ctl.rej)) = some (12, b1) := by
  decide +kernel

/-- P6 row 12; R30 for the others. -/
theorem test_rd_config : see (.cmd 0x7000000000) sampling (fun s => s.ctl.rdata) = some 12
    ∧ see (.cmd 0x7100000000) sampling (fun s => s.ctl.rdata) = some 0
    ∧ see (.cmd 0x7200000000) sampling (fun s => s.ctl.rdata) = some 0x10000
    ∧ see (.cmd 0x7300000000) bitRun (fun s => s.ctl.rdata) = some 4
    ∧ see (.cmd 0x7400000000) sampling (fun s => s.ctl.rdata) = some 0 := by
  decide +kernel

/-- P6 row 22: a reserved index reads 0. -/
theorem test_rd_reserved : [5, 6, 7, 13, 14, 15].all (fun r =>
      see (.cmd (0x7#4 ++ BitVec.ofNat 4 r ++ 0#32)) { tuned with ctl := { Control.reset with rdata := 5 } }
        (fun s => s.ctl.rdata) == some 0) = true := by
  decide +kernel

/-- 95_test_vectors.md 2.2: P1 in `RUN` (`0x00028021`), coefficients written (`0x00000180`), P7 (`0x00006001`). -/
theorem test_rd_status : see (.cmd 0x7800000000) (synced .seven 5 2 0) (fun s => s.ctl.rdata) = some 0x00028021
    ∧ see (.cmd 0x7800000000) tuned (fun s => s.ctl.rdata) = some 0x00000180
    ∧ see (.cmd 0x7800000000) (chunk 6 [b1, b0, b1, b0, b1]) (fun s => s.ctl.rdata) = some 0x00006001 := by
  decide +kernel

/-- R27: modulo 2^32; P1: `RD SYNC_ANCHOR`. -/
theorem test_rd_counters : [(9, 1), (10, 2), (11, 3), (12, 7)].all (fun p =>
      see (.cmd (0x7#4 ++ BitVec.ofNat 4 p.1 ++ 0#32))
        { State.reset with
          cnt := { nsym := 2 ^ 32 + 1, nbit := 2 ^ 32 + 2, nchar := 3 }, sync := { Sync.reset with anchor := 7 } }
        (fun s => s.ctl.rdata) == some (BitVec.ofNat 32 p.2)) = true := by
  decide +kernel

/-- P6 row 1, and in `RUN`. -/
theorem test_start_refused : see (.cmd 0x2000000000) State.reset (fun s => (s.ctl.run, s.ctl.rej)) = some (.idle, b1)
    ∧ see (.cmd 0x2000000000) sampling (fun s => (s.ctl.run, s.ctl.rej)) = some (.run, b1) := by
  decide +kernel

/-- P6 rows 6 and 10. -/
theorem test_start : see (.cmd 0x2000000000) (withSize 0 tuned) statusWord = some 0x00000187
    ∧ see (.cmd 0x2000000000) tuned statusWord = some 0x00000181 := by
  decide +kernel

/-- R85: the second sample, 1/2, of its example. -/
theorem test_sample : see (.cmd 0x3000008000)
      { sampling with tone := { Tone.reset with n := 1, seen := b1, mark := { s1 := 1, s2 := 0 }, space := { s1 := 1, s2 := 0 } } }
      (fun s => (s.tone.n, s.tone.mark, s.tone.space))
    = some (2, { s1 := 1 / 2, s2 := 1 }, { s1 := 3 / 2, s2 := 1 }) := by
  decide +kernel

/-- 95_test_vectors.md 3.3: `M12`, whose twelfth sample is 0, gives (1, 0) and Symbol 1. -/
theorem test_sample_closes_the_frame : see (.cmd 0x3000000000)
      { sampling with tone := { Tone.reset with n := 11, seen := b1, mark := { s1 := -6, s2 := 0 } } }
      (fun s => (s.tone, s.str.tapSym, s.sync.ph))
    = some ({ Tone.reset with seen := b1, markPresent := b1 }, [b1], .seekSpace) := by
  decide +kernel

/-- R116: the seventh symbol of DOC0's scenario fixes the anchor at 7. -/
theorem test_sym : see (.cmd 0x4000000000) { symRun with sync := { Sync.reset with ph := .seekSpace }, cnt := { Counters.reset with nsym := 6 } }
      (fun s => (s.sync.ph, s.sync.anchor, s.cnt.nsym, s.str.tapSym)) = some (.extract, 7, 7, [b0]) := by
  decide +kernel

/-- Section 7: `SYM` in `DONE`. -/
theorem test_sym_refused : see (.cmd 0x4000000001) (inRun .done symRun) (fun s => (s.ctl.run, s.ctl.rej, s.cnt.nsym)) = some (.done, b1, 0) := by
  decide +kernel

/-- R188, P7: `R` at the eighth bit. -/
theorem test_bit : see (.cmd 0x5000000001) (chunk 7 [b0, b1, b0, b1, b0]) (fun s => (s.str.out, s.cnt.nbit, s.cnt.nchar, s.dec, s.sync.ph))
    = some ([0x52], 1, 1, Dec.reset, .seekMark) := by
  decide +kernel

/-- P6 rows 13 and 17: no sample seen; a short frame of one sample, then no transition. -/
theorem test_end_errors : see (.cmd 0x6000000000) sampling statusWord = some 0x00000187
    ∧ see (.cmd 0x6000000000)
        { sampling with tone := { Tone.reset with n := 1, seen := b1, mark := { s1 := 1, s2 := 0 }, space := { s1 := 1, s2 := 0 } } }
        statusWord = some 0x0000098B := by
  decide +kernel

/-- P7: the flush gives `Y`; R138: a key of four bits gives a space. -/
theorem test_end_flushes : see (.cmd 0x6000000000) (chunk 6 [b1, b0, b1, b0, b1]) (fun s => (s.ctl.run, s.str.out)) = some (.done, [0x59])
    ∧ see (.cmd 0x6000000000) (chunk 5 [b0, b1, b0, b1]) (fun s => (s.ctl.run, s.str.out)) = some (.done, [0x20]) := by
  decide +kernel

/-- R190: `rej` set, the run undisturbed. -/
theorem test_reserved_ops : [8, 9, 10, 11, 12, 13, 14].all (fun op =>
      see (.cmd (BitVec.ofNat 4 op ++ 0#36)) sampling (fun s => (s.ctl.run, s.ctl.err, s.ctl.rej)) == some (.run, .none, b1)) = true := by
  decide +kernel

/-- R100: `FBX(1, 0) = 1`, `FBX(0, 1) = 0`, `FBX(0, 0) = 0`, `FBX(1, 1) = 1`. -/
theorem test_fbx : see (.flags 0b10) sampling (fun s => s.env.fbxOut) = some (some b1)
    ∧ see (.flags 0b01) sampling (fun s => s.env.fbxOut) = some (some b0)
    ∧ see (.flags 0b00) sampling (fun s => s.env.fbxOut) = some (some b0)
    ∧ see (.flags 0b11) sampling (fun s => s.env.fbxOut) = some (some b1) := by
  decide +kernel

/-- R115, R116. -/
theorem test_seek_rows : see (.symbol false b1) symRun (fun s => s.sync.ph) = some .seekSpace
    ∧ see (.symbol false b0) symRun (fun s => s.sync.ph) = some .seekMark
    ∧ see (.symbol true b1) symRun (fun s => s.sync.ph) = some .seekMark := by
  decide +kernel

/-- R117: `1,0,1,1,0,0,1` has sum 2, BaudotBit 0, then `W = 8`. -/
theorem test_window7 : see (.window [b1, b0, b1, b1, b0, b0, b1]) (synced .seven 0 0 0) (fun s => (s.str.tapBit, s.sync.w, s.sync.pos, s.sync.acc))
    = some ([b0], .eight, 0, 0) := by
  decide +kernel

/-- 95_test_vectors.md 4.2, with positions 1 to 5 `0,1,1,1,0`: sum 3, then `W = 7`. -/
theorem test_window8 : see (.window [b0, b0, b1, b1, b1, b0, b0, b0]) (synced .eight 0 0 1) (fun s => (s.str.tapBit, s.sync.w)) = some ([b1], .seven) := by
  decide +kernel

/-- 95_test_vectors.md table 6.1: the byte, whatever stands at positions 0, 6, 7. -/
theorem test_code_rows_1 :
    see (.charFrame [b1, b0, b0, b0, b0, b0, b0, b0]) bitRun (fun s => s.str.out) = some [0x00]
    ∧ see (.charFrame [b0, b0, b0, b1, b0, b0, b1, b1]) bitRun (fun s => s.str.out) = some [0x20]
    ∧ see (.charFrame [b1, b1, b0, b1, b1, b1, b0, b0]) bitRun (fun s => s.str.out) = some [0x51]
    ∧ see (.charFrame [b0, b1, b0, b0, b1, b1, b1, b1]) bitRun (fun s => s.str.out) = some [0x57]
    ∧ see (.charFrame [b1, b0, b0, b0, b0, b1, b0, b0]) bitRun (fun s => s.str.out) = some [0x45]
    ∧ see (.charFrame [b0, b0, b1, b0, b1, b0, b1, b1]) bitRun (fun s => s.str.out) = some [0x52]
    ∧ see (.charFrame [b1, b1, b0, b0, b0, b0, b0, b0]) bitRun (fun s => s.str.out) = some [0x54]
    ∧ see (.charFrame [b0, b1, b0, b1, b0, b1, b1, b1]) bitRun (fun s => s.str.out) = some [0x59]
    ∧ see (.charFrame [b1, b0, b0, b1, b1, b1, b0, b0]) bitRun (fun s => s.str.out) = some [0x55]
    ∧ see (.charFrame [b0, b0, b0, b1, b1, b0, b1, b1]) bitRun (fun s => s.str.out) = some [0x49] := by
  decide +kernel

/-- 95_test_vectors.md table 6.1: the byte, whatever stands at positions 0, 6, 7. -/
theorem test_code_rows_2 :
    see (.charFrame [b1, b1, b1, b0, b0, b0, b0, b0]) bitRun (fun s => s.str.out) = some [0x4F]
    ∧ see (.charFrame [b0, b1, b0, b1, b1, b0, b1, b1]) bitRun (fun s => s.str.out) = some [0x50]
    ∧ see (.charFrame [b1, b0, b0, b0, b1, b1, b0, b0]) bitRun (fun s => s.str.out) = some [0x41]
    ∧ see (.charFrame [b0, b0, b0, b1, b0, b1, b1, b1]) bitRun (fun s => s.str.out) = some [0x53]
    ∧ see (.charFrame [b1, b0, b1, b0, b0, b1, b0, b0]) bitRun (fun s => s.str.out) = some [0x44]
    ∧ see (.charFrame [b0, b0, b1, b1, b0, b1, b1, b1]) bitRun (fun s => s.str.out) = some [0x46]
    ∧ see (.charFrame [b1, b1, b1, b0, b1, b0, b0, b0]) bitRun (fun s => s.str.out) = some [0x47]
    ∧ see (.charFrame [b0, b1, b0, b1, b0, b0, b1, b1]) bitRun (fun s => s.str.out) = some [0x48]
    ∧ see (.charFrame [b1, b0, b1, b0, b1, b1, b0, b0]) bitRun (fun s => s.str.out) = some [0x4A]
    ∧ see (.charFrame [b0, b0, b1, b1, b1, b1, b1, b1]) bitRun (fun s => s.str.out) = some [0x4B] := by
  decide +kernel

/-- 95_test_vectors.md table 6.1: the byte, whatever stands at positions 0, 6, 7. -/
theorem test_code_rows_3 :
    see (.charFrame [b1, b1, b0, b0, b1, b0, b0, b0]) bitRun (fun s => s.str.out) = some [0x4C]
    ∧ see (.charFrame [b0, b1, b0, b0, b0, b1, b1, b1]) bitRun (fun s => s.str.out) = some [0x5A]
    ∧ see (.charFrame [b1, b1, b1, b1, b0, b1, b0, b0]) bitRun (fun s => s.str.out) = some [0x58]
    ∧ see (.charFrame [b0, b0, b1, b1, b1, b0, b1, b1]) bitRun (fun s => s.str.out) = some [0x43]
    ∧ see (.charFrame [b1, b1, b1, b1, b1, b0, b0, b0]) bitRun (fun s => s.str.out) = some [0x56]
    ∧ see (.charFrame [b0, b1, b1, b0, b0, b1, b1, b1]) bitRun (fun s => s.str.out) = some [0x42]
    ∧ see (.charFrame [b1, b0, b1, b1, b0, b0, b0, b0]) bitRun (fun s => s.str.out) = some [0x4E]
    ∧ see (.charFrame [b0, b1, b1, b1, b0, b0, b1, b1]) bitRun (fun s => s.str.out) = some [0x4D]
    ∧ see (.charFrame [b1, b0, b1, b0, b0, b0, b0, b0]) bitRun (fun s => s.str.out) = some [0x0D]
    ∧ see (.charFrame [b0, b0, b0, b0, b1, b0, b1, b1]) bitRun (fun s => s.str.out) = some [0x0A] := by
  decide +kernel

/-- R60, R138: a last chunk of 6 or 7 BaudotBits has a complete key, which names its row. -/
theorem test_decode_last_chunk :
    decode (.charFrame [b0, b0, b1, b0, b1, b0]) = .ok (.codeR b0 none none)
    ∧ decode (.charFrame [b1, b0, b1, b0, b1, b0, b0]) = .ok (.codeR b1 (some b0) none) := by
  decide

/-- 95_test_vectors.md table 6.2: final chunks of 6 and 7 decode to `R`. -/
theorem test_last_chunk_rows :
    see (.charFrame [b0, b0, b1, b0, b1, b0]) bitRun (fun s => s.str.out) = some [0x52]
    ∧ see (.charFrame [b1, b0, b1, b0, b1, b0, b0]) bitRun (fun s => s.str.out) = some [0x52] := by
  decide +kernel

/-- 95_test_vectors.md table 6.2. -/
theorem test_fallback_rows :
    see (.charFrame [b0, b1, b1, b0, b1, b1, b1, b1]) bitRun (fun s => s.str.out) = some [0x20]
    ∧ see (.charFrame [b1, b1, b1, b1, b1, b1, b1, b1]) bitRun (fun s => s.str.out) = some [0x20]
    ∧ see (.charFrame [b1]) bitRun (fun s => s.str.out) = some [0x20]
    ∧ see (.charFrame [b0, b1]) bitRun (fun s => s.str.out) = some [0x20]
    ∧ see (.charFrame [b0, b1, b1]) bitRun (fun s => s.str.out) = some [0x20]
    ∧ see (.charFrame [b0, b0, b1, b0]) bitRun (fun s => s.str.out) = some [0x20]
    ∧ see (.charFrame [b0, b0, b1, b0, b1]) bitRun (fun s => s.str.out) = some [0x20] := by
  decide +kernel

/-- R85: the first sample of its example. -/
theorem test_gstep : see (.call (.gstep 1)) sampling (fun s => (s.tone.n, s.tone.seen, s.tone.mark, s.tone.space))
    = some (1, b1, { s1 := 1, s2 := 0 }, { s1 := 1, s2 := 0 }) := by
  decide +kernel

/-- R86: after `FRAME.M12` the powers are 36 and 0; a tie goes to space. -/
theorem test_fclose : see (.call .fclose) { sampling with tone := { Tone.reset with mark := { s1 := 0, s2 := -6 } } } (fun s => s.str.tapSym) = some [b1]
    ∧ see (.call .fclose) sampling (fun s => (s.tone.markPresent, s.tone.spacePresent, s.str.tapSym)) = some (b0, b1, [b0]) := by
  decide +kernel

/-- 95_test_vectors.md 3.4: a power of exactly 10 does not pass `THRESH = 10`; 36 does. -/
theorem test_fclose_absolute : see (.call .fclose)
      { sampling with
        cfg := { tuned.cfg with abs := b1, thresh := some 0xA0000 }
        tone := { Tone.reset with mark := { s1 := 3, s2 := 1 }, space := { s1 := 0, s2 := -6 } } }
      (fun s => (s.tone.markPresent, s.tone.spacePresent)) = some (b0, b1) := by
  decide +kernel

/-- R117: position 0 is discarded, position 5 is voted. -/
theorem test_sync_step : see (.call (.syncStep b1)) (synced .seven 0 0 0) (fun s => (s.sync.pos, s.sync.acc)) = some (1, 0)
    ∧ see (.call (.syncStep b1)) (synced .seven 5 2 0) (fun s => (s.sync.pos, s.sync.acc)) = some (6, 3) := by
  decide +kernel

/-- R245: the bit appears at the last symbol of the window, here position 7 of 8. -/
theorem test_sync_step_last : see (.call (.syncStep b1)) (synced .eight 7 2 1) (fun s => (s.str.tapBit, s.sync.w)) = some ([b0], .seven)
    ∧ see (.call (.syncStep b1)) (synced .eight 6 3 1) (fun s => (s.str.tapBit, s.sync.pos)) = some ([], 7) := by
  decide +kernel

/-- R119. -/
theorem test_sync_end : see (.call .syncEnd) symRun (fun s => (s.ctl.run, s.ctl.err)) = some (.err, .syncNotFound)
    ∧ see (.call .syncEnd) (synced .seven 5 2 0) (fun s => (s.ctl.run, s.sync.pos)) = some (.run, 5) := by
  decide +kernel

/-- R136: positions 0 and 6 are not stored, position 5 is. -/
theorem test_dec_push : see (.call (.decPush b1)) (chunk 0 []) (fun s => s.dec) = some { k := 1, key := [] }
    ∧ see (.call (.decPush b0)) (chunk 5 [b0, b1, b0, b1]) (fun s => s.dec) = some { k := 6, key := [b0, b1, b0, b1, b0] }
    ∧ see (.call (.decPush b1)) (chunk 6 [b0, b1, b0, b1, b0]) (fun s => s.dec) = some { k := 7, key := [b0, b1, b0, b1, b0] } := by
  decide +kernel

/-- R137: `10101` is `Y`. -/
theorem test_dec_emit : see (.call .decEmit) (chunk 7 [b1, b0, b1, b0, b1]) (fun s => (s.str.out, s.dec)) = some ([0x59], Dec.reset) := by
  decide +kernel

/-- R138: `k = 1` gives a space, `k = 0` nothing. -/
theorem test_dec_flush : see (.call .decFlush) (chunk 1 []) (fun s => s.str.out) = some [0x20]
    ∧ see (.call .decFlush) (chunk 0 []) (fun s => s.str.out) = some [] := by
  decide +kernel

/-- A stimulus in no format is refused by name (log entry 11). -/
theorem test_malformed : (match step (waiting [.item (.window [])]) with | .refused r => r == .malformed (.windowLength 0) | _ => false) = true := by
  decide +kernel

/-- R89: exact values. -/
theorem test_powers : power 0 [1, 0, -1, 0] = 4 ∧ power 1 [1, 1 / 2, -(1 / 2), -1, -(1 / 2), 1 / 2] = 9 ∧ power 2 [1, 1, 1, 1] = 16
    ∧ power (-2) [1, -1, 1, -1] = 16 ∧ power (5 / 2) [1, -1] = -(1 / 2) := by
  decide +kernel

/-- R112: its three examples. -/
theorem test_batch_bits : bitsOf [b0, b0, b0, b1, b1, b1, b0, b0, b0, b0, b1, b1] = some []
    ∧ bitsOf ([b1, b0] ++ List.replicate 7 b1 ++ List.replicate 8 b0) = some [b1, b0]
    ∧ bitsOf ([b1, b0] ++ List.replicate 7 b1 ++ List.replicate 7 b0) = some [b1] := by
  decide +kernel

/-- Log entry 10: in `DONE` after a `BITS` run that emitted a BaudotBit, `CFG MODE` to another source leaves
`ph ≠ EXTRACT`, `MODE.SRC ≠ BITS` and `nbit = 1`: the last clause of R29 (c) is false of a reachable state. -/
theorem test_r29c_after_a_bits_run :
    (match execAll [.cfgMode b0 2, .start, .bit b1, .endRun, .cfgMode b0 1] State.reset with
      | .next t => decide (t.sync.ph = .seekMark ∧ t.cfg.src = .symbols ∧ t.cnt.nbit = 1 ∧ t.ctl.run = .done)
      | _ => false) = true := by
  decide +kernel

/-! ### For every statement with hypotheses, states and operands that meet them -/

/-- One `NOP` waiting at the port (for `StepRunsTheDecodedInstruction`). -/
theorem hyp_StepRunsTheDecodedInstruction :
    (waiting [.item (.cmd 0)]).env.pending = .item (.cmd 0) :: [] ∧ decode (.cmd 0) = .ok .nop := ⟨rfl, rfl⟩

/-- One state for each clause. -/
theorem hyp_StepWithoutAnInstruction :
    (waiting []).env.pending = [] ∧ (waiting [.resetPin]).env.pending = .resetPin :: []
    ∧ (waiting [.item (.window [])]).env.pending = .item (.window []) :: []
    ∧ decode (.window []) = .error (.windowLength 0) := by decide

/-- Well-formed terms of the rows whose operands have a length. -/
theorem hyp_DecodeOfEncodeIsTheInstruction :
    Instr.start.wellFormed = true ∧ (Instr.syncExtractW8 [b0, b1, b1, b1, b0, b0, b0, b1]).wellFormed = true
    ∧ (Instr.codeR b0 none none).wellFormed = true ∧ (Instr.codeR b0 (some b1) (some b1)).wellFormed = true
    ∧ (Instr.codeShort1 [b1]).wellFormed = true ∧ (Instr.codeShort5 [b1, b0, b0, b0, b1]).wellFormed = true := by
  decide

/-- The last command word at the port. -/
theorem hyp_EveryCommandWordHasANextState :
    (waiting [.item (.cmd 0xFFFFFFFFFF), .resetPin]).env.pending = .item (.cmd 0xFFFFFFFFFF) :: [.resetPin] := rfl

/-- Commands that are not accepted: the wrong state, the wrong source, a reserved field, an unwritten value. -/
theorem hyp_RefusedCommandsSetRejAndNothingElse :
    (Instr.sample 0).isCommand = true ∧ accepted (.sample 0) State.reset = false ∧ accepted (.sample 0) symRun = false
    ∧ Instr.start.isCommand = true ∧ accepted .start sampling = false ∧ accepted .start State.reset = false
    ∧ (Instr.cfgMode b0 3).isCommand = true ∧ accepted (.cfgMode b0 3) State.reset = false
    ∧ Instr.endRun.isCommand = true ∧ accepted .endRun (inRun .done tuned) = false
    ∧ Instr.reservedOpE.isCommand = true ∧ accepted .reservedOpE State.reset = false := by decide

/-- One command for each clause. -/
theorem hyp_RejIsSetByRefusalAndStaysUntilStartOrReset :
    (Instr.endRun.isCommand = true ∧ (∃ t, exec .endRun State.reset = .next t) ∧ accepted .endRun State.reset = false)
    ∧ (Instr.rst.isCommand = true ∧ (∃ t, exec .rst State.reset = .next t) ∧ accepted .rst State.reset = true)
    ∧ (Instr.start.isCommand = true ∧ (∃ t, exec .start tuned = .next t) ∧ accepted .start tuned = true)
    ∧ (Instr.nop.isCommand = true ∧ (∃ t, exec .nop sampling = .next t) ∧ accepted .nop sampling = true
      ∧ Instr.nop ≠ .start ∧ Instr.nop ≠ .rst) :=
  ⟨⟨rfl, ⟨_, rfl⟩, rfl⟩, ⟨rfl, ⟨_, rfl⟩, rfl⟩, ⟨rfl, ⟨_, rfl⟩, rfl⟩, ⟨rfl, ⟨_, rfl⟩, rfl, by decide, by decide⟩⟩

/-- Outside a run, and inside one. -/
theorem hyp_CfgWritesOrIsRefused : State.reset.ctl.run ≠ .run ∧ sampling.ctl.run = .run := by decide

/-- Outside a run and inside one, with the register at the ends of each clause's range and `SRC` at 0 and at 3. -/
theorem hyp_CfgWordFollowsItsRule :
    State.reset.ctl.run ≠ .run ∧ sampling.ctl.run = .run ∧ (0 : BitVec 4) = 0 ∧ 5 ≤ (5 : BitVec 4).toNat
    ∧ 5 ≤ (15 : BitVec 4).toNat ∧ ¬5 ≤ (4 : BitVec 4).toNat ∧ (6 : Word32).extractLsb' 1 2 = 3
    ∧ (0xFFFFFFF9 : Word32).extractLsb' 1 2 = 0 ∧ (2 : Word32).extractLsb' 1 2 = 1
    ∧ (4 : Word32).extractLsb' 1 2 = 2 := by decide

/-- The indices at the ends of the reserved ranges. -/
theorem hyp_RdWordFollowsItsRule :
    (5 ≤ (5 : BitVec 4).toNat ∧ (5 : BitVec 4).toNat ≤ 7) ∧ (5 ≤ (7 : BitVec 4).toNat ∧ (7 : BitVec 4).toNat ≤ 7)
    ∧ 13 ≤ (13 : BitVec 4).toNat ∧ 13 ≤ (15 : BitVec 4).toNat ∧ ¬(13 ≤ (12 : BitVec 4).toNat)
    ∧ ¬((8 : BitVec 4).toNat ≤ 7) := by decide

/-- The greatest and the least word of each register's range. -/
theorem hyp_RegisterWordsAreReadAsTheirNumbers :
    (withSize 0x7FFFFFFF tuned).cfg.frameSize = 0x7FFFFFFF ∧ (withSize 0x80000000 tuned).cfg.frameSize = 0x80000000
    ∧ { tuned.cfg with coeffMark := some 0x80000000 }.coeffMark = some 0x80000000
    ∧ tuned.cfg.coeffMark = some 0 ∧ tuned.cfg.coeffSpace = some 0x10000
    ∧ { tuned.cfg with thresh := some 0x7FFFFFFF }.thresh = some 0x7FFFFFFF := by decide

/-- The least and the greatest `k` and `pos`. -/
theorem hyp_RdStatusPacksTheStatusFields :
    State.reset.dec.k < 8 ∧ State.reset.sync.pos < 8
    ∧ (chunk 7 []).dec.k < 8 ∧ (synced .eight 7 0 1).sync.pos < 8 := by decide

/-- One state for each clause; `FRAME_SIZE` at 0 and at 1, where two clauses meet. -/
theorem hyp_StartFollowsItsNumberedSteps :
    sampling.ctl.run = .run
    ∧ (State.reset.cfg.src = .samples ∧ State.reset.cfg.coeffMark = none)
    ∧ ({ tuned.cfg with abs := b1 }.abs = b1 ∧ { tuned.cfg with abs := b1 }.thresh = none
      ∧ { tuned.cfg with abs := b1 }.src = .samples)
    ∧ (tuned.ctl.run ≠ .run ∧ tuned.cfg.src = .samples ∧ tuned.cfg.coeffMark ≠ none ∧ tuned.cfg.coeffSpace ≠ none
      ∧ tuned.cfg.abs ≠ b1 ∧ (withSize 0 tuned).cfg.frameSize.toInt ≤ 0
      ∧ 0 < (withSize 1 tuned).cfg.frameSize.toInt)
    ∧ ((withSrc .bits State.reset).ctl.run ≠ .run ∧ (withSrc .bits State.reset).cfg.src ≠ .samples) := by decide

/-- An open run of the source, and none. -/
theorem hyp_SampleFeedsBothChannels :
    (sampling.ctl.run = .run ∧ sampling.cfg.src = .samples) ∧ ¬(tuned.ctl.run = .run ∧ tuned.cfg.src = .samples)
    ∧ ¬(symRun.ctl.run = .run ∧ symRun.cfg.src = .samples) := by decide

/-- An open run of the source, and none. -/
theorem hyp_SymFeedsTheSynchronizer :
    (symRun.ctl.run = .run ∧ symRun.cfg.src = .symbols) ∧ ¬(bitRun.ctl.run = .run ∧ bitRun.cfg.src = .symbols) := by
  decide

/-- An open run of the source, and none. -/
theorem hyp_BitFeedsTheDecoder :
    (bitRun.ctl.run = .run ∧ bitRun.cfg.src = .bits) ∧ ¬(symRun.ctl.run = .run ∧ symRun.cfg.src = .bits) := by decide

/-- A sample run that has taken a sample, with `n` samples in the open frame. -/
def sampled (n : Nat) : State := { sampling with tone := { Tone.reset with n := n, seen := b1 } }

/-- One state for each clause; `n` at 0 and at 1. -/
theorem hyp_EndFollowsItsNumberedSteps :
    tuned.ctl.run ≠ .run
    ∧ (sampling.ctl.run = .run ∧ sampling.cfg.src = .samples ∧ sampling.tone.seen = b0)
    ∧ ((sampled 0).ctl.run = .run ∧ (sampled 0).cfg.src = .samples ∧ (sampled 0).tone.seen = b1
      ∧ (sampled 0).sync.ph ≠ .extract)
    ∧ ((sampled 1).tone.seen = b1 ∧ (afterFrame (sampled 1)).sync.ph ≠ .extract)
    ∧ (symRun.ctl.run = .run ∧ symRun.cfg.src = .symbols ∧ symRun.sync.ph ≠ .extract)
    ∧ ((synced .seven 0 0 0).ctl.run = .run ∧ (synced .seven 0 0 0).cfg.src = .symbols
      ∧ (synced .seven 0 0 0).sync.ph = .extract)
    ∧ (bitRun.ctl.run = .run ∧ bitRun.cfg.src = .bits) := by decide +kernel

/-- A sample run in which the short final frame itself ends Phase A. -/
theorem hyp_EndFollowsItsNumberedSteps_synced :
    ∀ s, s = { sampled 1 with sync := { Sync.reset with ph := .seekSpace } } →
      s.ctl.run = .run ∧ s.cfg.src = .samples ∧ s.tone.seen = b1 ∧ 0 < s.tone.n
      ∧ (afterFrame s).sync.ph = .extract := by
  rintro s rfl
  decide +kernel

/-- Synchronised, and not. -/
theorem hyp_SyncStepAndSyncEndRowsComplete :
    (synced .seven 0 0 0).sync.ph = .extract ∧ symRun.sync.ph ≠ .extract := by decide

/-- A window about to open, of either length. -/
theorem hyp_WindowRowsEmitTheMajority :
    ((synced .seven 0 0 0).sync.pos = 0 ∧ (synced .seven 0 0 0).sync.acc = 0 ∧ (synced .seven 0 0 0).sync.w = .seven)
    ∧ ((synced .eight 0 0 1).sync.pos = 0 ∧ (synced .eight 0 0 1).sync.acc = 0
      ∧ (synced .eight 0 0 1).sync.w = .eight) := by decide

/-- No chunk open, and one of one bit. -/
theorem hyp_DecoderRowsPushEmitAndFlush : (chunk 0 []).dec.k = 0 ∧ 1 ≤ (chunk 1 []).dec.k := by decide

/-- The shortest and the longest short key. -/
theorem hyp_UnmappedAndShortKeysEmitASpace : ([] : List Bit).length < 5 ∧ [b0, b1, b0, b1].length < 5 := by decide

/-- A decoder with no chunk open, and a frame. -/
theorem hyp_FrameRowsAgreeWithEightPushes :
    bitRun.dec.k = 0 ∧ bitRun.dec.key = [] ∧ [b0, b0, b1, b0, b1, b0, b1, b1].length = 8 := by decide

/-- The shortest and the longest chunk that needs a flush. -/
theorem hyp_LastChunkRowsAgreeWithPushesAndFlush :
    bitRun.dec.k = 0 ∧ bitRun.dec.key = [] ∧ 1 ≤ [b1].length
    ∧ [b1, b0, b1, b0, b1, b0, b0].length ≤ 7 := by decide

/-- The ends of the range of `|c| ≤ 2`, and values outside it. -/
theorem hyp_PowerIsNonnegativeUpToTwo :
    ((-2 : NumQ) ≤ 2 ∧ (2 : NumQ) ≤ 2 ∧ (-2 : NumQ) ≤ -2) ∧ (2 : NumQ) < 5 / 2 ∧ (-5 / 2 : NumQ) < -2 := by norm_num

/-- A gain, and a configuration in relative mode. -/
theorem hyp_RelativeDecisionIgnoresTheGain :
    (1 / 4 : NumQ) ≠ 0 ∧ (⟨12, 0, 1, b0, 0⟩ : DecodeCfg).abs = b0 := ⟨by norm_num, rfl⟩

/-- The least frame size; a buffer of two frames. -/
theorem hyp_FramesPartitionTheBuffer :
    1 ≤ 1 ∧ 0 + 1 < (frames [1, 0, 1] 2).length ∧ [(1 : NumQ)] ∈ frames [1, 0, 1] 2 := by decide +kernel

/-- The shortest sequence with an anchor, and two without. -/
theorem hyp_AnchorIsPastTheFirstSpaceAfterAMark :
    anchorOf [b1, b0] = some 2 ∧ anchorOf [] = none ∧ anchorOf [b1, b1] = none ∧ (0 : Nat) < 2 - 1 := by decide

/-- A sequence with one whole window. -/
theorem hyp_BitsAreTheVotesOfTheWholeWindows :
    anchorOf [b1, b0, b1, b1, b1, b1, b1, b1, b1] = some 2 ∧ bitsOf [b1, b0, b1, b1, b1, b1, b1, b1, b1] = some [b1]
    ∧ 0 < [b1].length := by decide

/-- A configured block, one sample, and the least frame size. -/
theorem hyp_SampleRunProducesTheBatchSymbols :
    (withSize 1 tuned).cfg.src = .samples ∧ 0 < frameSize (withSize 1 tuned)
    ∧ accepted .start (withSize 1 tuned) = true ∧ (∃ t0, exec .start (withSize 1 tuned) = .next t0)
    ∧ ([0x10000] : List Word32) ≠ [] :=
  ⟨by decide, by decide, by decide, ⟨_, rfl⟩, by decide⟩

/-- A fresh symbol run, with a sequence that fails and two that do not. -/
theorem hyp_StreamedSymbolsGiveTheBatchBits :
    symRun.ctl.run = .run ∧ symRun.cfg.src = .symbols ∧ symRun.sync = .reset ∧ symRun.cnt.nsym = 0
    ∧ symRun.str.tapBit = [] ∧ anchorOf [b1] = none ∧ anchorOf [b1, b0] = some 2
    ∧ anchorOf [b1, b0, b1, b1, b1, b1, b1, b1, b1] = some 2 ∧ 9 ≤ [b1, b0, b1, b1, b1, b1, b1, b1, b1].length := by
  decide

/-- A fresh bit run. -/
theorem hyp_StreamedBitsGiveTheBatchText :
    bitRun.ctl.run = .run ∧ bitRun.cfg.src = .bits ∧ bitRun.dec = .reset ∧ bitRun.str.out = [] := by decide

/-- A configured block and a run of one sample with a `NOP` and a `RD` mixed in. -/
theorem hyp_CommandPortComputesDecode :
    tuned.cfg.src = .samples ∧ accepted .start tuned = true
    ∧ [Instr.start, .nop, .sample 1, .rdStatus, .endRun].filter (fun i => !isObserver i) = Asm.decodeRun [1] := by
  decide +kernel

/-- The configuration a run takes from `tuned` with the frame size `w` and the threshold 0. -/
def tunedCfg (w : Word32) : State × DecodeCfg :=
  let s : State := { tuned with cfg := { tuned.cfg with frameSize := w, thresh := some 0 } }
  (s, ⟨frameSize s, coeff .mark s, coeff .space s, s.cfg.abs, threshold s⟩)

/-- Every clause: `F = 0`; `F = 1` and no sample; no transition; a transition. -/
theorem hyp_CommandPortComputesDecode_clauses :
    ([0, 1, 3].all fun w => (tunedCfg w).1.cfg.src == .samples && accepted .start (tunedCfg w).1) = true
    ∧ frameSize (tunedCfg 0).1 ≤ 0 ∧ 0 < frameSize (tunedCfg 1).1
    ∧ decodeBuffer (tunedCfg 0).2 ([0x10000].map q16) = .error .invalidFrameSize
    ∧ decodeBuffer (tunedCfg 1).2 ([].map q16) = .error .invalidFrameSize
    ∧ decodeBuffer (tunedCfg 1).2 ([0x10000].map q16) = .error .syncNotFound
    ∧ decodeBuffer (tunedCfg 3).2 ([0x10000, 0, 0xFFFF0000, 0x10000].map q16) = .ok ([], 2, 0, 0) := by
  refine ⟨?_, ?_, ?_, ?_, ?_, ?_, ?_⟩ <;> decide +kernel

/-- A state that has the invariant, with a command at its port: an open sample run. -/
theorem hyp_HardwareStepKeepsTheInvariant :
    ∀ s, s = { sampling with env := { Env.reset with pending := [.item (.cmd 0x3000010000)] } } →
      Inv s ∧ (∀ x ∈ s.env.pending.head?, isHardwareInput x = true) ∧ ∃ t, step s = .next t := by
  rintro s rfl
  exact ⟨by constructor <;> decide, by decide, ⟨_, rfl⟩⟩

/-- Command words presented one at a time. -/
def present : List CmdWord → State → Option State
  | [], s => some s
  | w :: ws, s =>
    match step (offer (.item (.cmd w)) s) with
    | .next t => present ws t
    | _ => none

theorem reachable_present (ws : List CmdWord) : ∀ s t, Reachable s → present ws s = some t → Reachable t := by
  induction ws with
  | nil => intro s t hs h; cases h; exact hs
  | cons w ws ih =>
    intro s t hs h
    unfold present at h
    split at h
    · next u hu => exact ih u t (.input hs rfl hu) h
    · cases h

/-- A reachable state in `ERR`: a symbol run without a symbol, ended. -/
theorem hyp_FailedRunsDeliverNoText : ∃ s, Reachable s ∧ s.ctl.run = .err :=
  ⟨_, reachable_present [0x1300000002, 0x2000000000, 0x6000000000] _ _ .reset rfl, rfl⟩

/-- A reachable open run with a character emitted, and an `END`. -/
theorem hyp_FailedRunsDeliverNoText_later :
    ∃ s t, Reachable s ∧ s.ctl.run = .run ∧ s.str.out ≠ [] ∧ isHardwareInput (.item (.cmd 0x6000000000)) = true
      ∧ step (offer (.item (.cmd 0x6000000000)) s) = .next t :=
  ⟨_, _, reachable_present
      ([0x1300000004, 0x2000000000] ++ List.replicate 8 0x5000000001) _ _ .reset rfl, rfl, by decide, rfl, rfl⟩

/-- A refused write in a run, and a command that is no write. -/
theorem hyp_ConfigurationIsFixedWhileARunIsOpen :
    (Instr.cfgFrameSize 6).isCommand = true ∧ (∃ t, exec (.cfgFrameSize 6) sampling = .next t)
    ∧ Instr.cfgFrameSize 6 ≠ .rst ∧ sampling.ctl.run = .run
    ∧ Instr.endRun.isCommand = true ∧ (∃ t, exec .endRun sampling = .next t) ∧ Instr.endRun ≠ .rst
    ∧ isCfgWrite .endRun = false :=
  ⟨rfl, ⟨_, rfl⟩, by decide, rfl, rfl, ⟨_, rfl⟩, by decide, rfl⟩

/-- A command that moves `run`. -/
theorem hyp_RunStateMovesByStartEndAndReset :
    Instr.endRun.isCommand = true ∧ ∃ t, exec .endRun bitRun = .next t ∧ t.ctl.run ≠ bitRun.ctl.run :=
  ⟨rfl, _, rfl, by decide⟩

/-- A command that raises each error, and one that raises none. -/
theorem hyp_ErrorsAreRaisedOnlyAsTheTableSays :
    (Instr.start.isCommand = true ∧ ∃ t, exec .start (withSize 0 tuned) = .next t
      ∧ t.ctl.err ≠ tuned.ctl.err ∧ t.ctl.err = .invalidFrameSize)
    ∧ (Instr.endRun.isCommand = true ∧ ∃ t, exec .endRun symRun = .next t
      ∧ t.ctl.err ≠ symRun.ctl.err ∧ t.ctl.err = .syncNotFound)
    ∧ ∃ t, exec .endRun bitRun = .next t ∧ t.ctl.run ≠ .err :=
  ⟨⟨rfl, _, rfl, by decide, by decide⟩, ⟨rfl, _, rfl, by decide, by decide⟩, _, rfl, by decide⟩

/-- The three conditions, each met by a command that gives a next state: `START` with `FRAME_SIZE = 0`, where 1 would open
the run; `END` of a sample run without a sample; `END` of a sample run with one, and of a symbol run without a Symbol. -/
theorem hyp_ErrorsAreRaisedOnlyAsTheTableSays_conditions :
    (accepted .start (withSize 0 tuned) = true ∧ (withSize 0 tuned).cfg.src = .samples
      ∧ (withSize 0 tuned).cfg.frameSize.toInt ≤ 0 ∧ ¬(withSize 1 tuned).cfg.frameSize.toInt ≤ 0
      ∧ see (.cmd 0x2000000000) (withSize 1 tuned) (fun s => s.ctl.run) = some .run)
    ∧ (sampling.ctl.run = .run ∧ sampling.cfg.src = .samples ∧ sampling.tone.seen = b0
      ∧ see (.cmd 0x6000000000) sampling (fun s => s.ctl.err) = some .invalidFrameSize)
    ∧ ((sampled 1).ctl.run = .run ∧ (sampled 1).cfg.src = .samples ∧ (sampled 1).tone.seen = b1
      ∧ see (.cmd 0x6000000000) (sampled 1) (fun s => (s.sync.ph, s.ctl.err)) = some (.seekMark, .syncNotFound))
    ∧ (symRun.ctl.run = .run ∧ symRun.cfg.src = .symbols
      ∧ see (.cmd 0x6000000000) symRun (fun s => (s.sync.ph, s.ctl.err)) = some (.seekMark, .syncNotFound)) := by
  decide +kernel

/-- A Symbol into a synchronised run. -/
theorem hyp_SynchronisationIsSingleShot :
    (Instr.sym b1).isCommand = true ∧ Instr.sym b1 ≠ .start ∧ Instr.sym b1 ≠ .rst
    ∧ (synced .eight 7 3 1).sync.ph = .extract ∧ ∃ t, exec (.sym b1) (synced .eight 7 3 1) = .next t :=
  ⟨rfl, by decide, by decide, rfl, _, rfl⟩

/-- A command in a run, and one outside. -/
theorem hyp_StreamsOnlyGrowWithinARun :
    (Instr.bit b1).isCommand = true ∧ Instr.bit b1 ≠ .start ∧ Instr.bit b1 ≠ .rst
    ∧ (∃ t, exec (.bit b1) bitRun = .next t) ∧ (∃ t, exec (.bit b1) State.reset = .next t)
    ∧ State.reset.ctl.run ≠ .run :=
  ⟨rfl, by decide, by decide, ⟨_, rfl⟩, ⟨_, rfl⟩, by decide⟩

/-- A sample in an open run (the last clause). -/
theorem hyp_SampleFeedsBothChannels_bound : ∃ t, exec (.sample 0x10000) sampling = .next t := ⟨_, rfl⟩

/-- One symbol before a window ends, and two different symbols. -/
theorem hyp_WindowAlternationIgnoresTheData :
    (synced .seven 6 2 0).sync.ph = .extract ∧ (synced .seven 6 3 0).sync.ph = .extract
    ∧ (synced .seven 6 2 0).sync.w = (synced .seven 6 3 0).sync.w
    ∧ (synced .seven 6 2 0).sync.pos = (synced .seven 6 3 0).sync.pos
    ∧ (synced .seven 6 2 0).cnt.nbit = (synced .seven 6 3 0).cnt.nbit ∧ [b0].length = [b1].length := by decide

/-- Two blocks with one configuration: one fresh, one in `DONE` with another run's results and more inputs taken. -/
theorem hyp_RunsOweNothingToTheRunBefore :
    ∀ s, s = { inRun .done tuned with
        cnt := { nsym := 3, nbit := 1, nchar := 1 }, env := { Env.reset with free := 5 } } →
      tuned.cfg = s.cfg ∧ tuned.env ≠ s.env ∧ accepted .start tuned = true ∧ accepted .start s = true
      ∧ (∀ i ∈ [Instr.sample 1, .endRun], i.isCommand = true) := by
  rintro s rfl
  decide

/-- An open run, where R29 (c) is kept by `END`; a `DONE` of a bit run, where a `CFG MODE` that keeps `BITS` keeps it. -/
theorem hyp_UnsynchronisedRunsHaveNoBitsUntilModeIsWritten :
    (Inv symRun ∧ symRun.ctl.run ≠ .done ∧ R29c symRun ∧ Instr.endRun.isCommand = true
      ∧ ∃ t, exec .endRun symRun = .next t)
    ∧ ∀ s, s = inRun .done (withSrc .bits State.reset) →
      Inv s ∧ R29c s ∧ s.ctl.run = .done ∧ (Instr.cfgMode b1 2).isCommand = true
      ∧ ∃ t, exec (.cfgMode b1 2) s = .next t ∧ t.ctl.run = .done ∧ s.cfg.src = .bits ∧ t.cfg.src = .bits := by
  refine ⟨⟨by constructor <;> decide, by decide, by unfold R29c; decide, rfl, ⟨_, rfl⟩⟩, ?_⟩
  rintro s rfl
  exact ⟨by constructor <;> decide, by unfold R29c; decide, rfl, rfl, _, rfl, rfl, rfl, rfl⟩

end Sys2Proof.Tests
end

section
/-!
PROOFS. The family of spec/10_state.md: the reset table (R32) and the `STATUS` word (R31). The word is a concatenation of
fields; its number is the sum of the fields, each times the weight of its lowest bit.
-/

namespace Sys2Proof.Machine

/-! ### Concatenated fields as numbers -/

/-- The left field of a concatenation weighs `2 ^ n` over a right field of `n` bits. -/
theorem toNat_append_eq_add {m n : Nat} (x : BitVec m) (y : BitVec n) :
    (x ++ y).toNat = 2 ^ n * x.toNat + y.toNat := by
  rw [BitVec.toNat_append, ← Nat.shiftLeft_add_eq_or_of_lt y.isLt, Nat.shiftLeft_eq, Nat.mul_comm]

/-- A flag of weight `c`, as R31 writes it, is `c` times its bit. -/
theorem ite_weight_eq_mul (p : Prop) [Decidable p] (c : Nat) :
    (if p then c else 0) = c * (decide p).toNat := by
  by_cases h : p <;> simp [h]

/-! ### The `STATUS` word (R31) -/

/-- A configuration register's valid bit says that it is not `none`. -/
theorem isSome_eq_decide_ne_none {α : Type} (r : Option α) : r.isSome = decide (r ≠ none) := by
  cases r <;> rfl

/-- The number of the `STATUS` word, field by field from bit 0 up; the codes of `run` and `err` stand by name. The
bounds say that `k` and `pos` fit the three bits each has in the word. -/
theorem statusWord_toNat {s : State} (hk : s.dec.k < 8) (hpos : s.sync.pos < 8) :
    (statusWord s).toNat =
      (runCode s.ctl.run).toNat
      + 4 * (errCode s.ctl.err).toNat
      + (if s.ctl.rej = b1 then 2 ^ 4 else 0)
      + (if s.sync.ph = .extract then 2 ^ 5 else 0)
      + (if s.sync.w = .eight then 2 ^ 6 else 0)
      + (if s.cfg.coeffMark ≠ none then 2 ^ 7 else 0)
      + (if s.cfg.coeffSpace ≠ none then 2 ^ 8 else 0)
      + (if s.cfg.thresh ≠ none then 2 ^ 9 else 0)
      + (if s.tone.markPresent = b1 then 2 ^ 10 else 0)
      + (if s.tone.spacePresent = b1 then 2 ^ 11 else 0)
      + 2 ^ 12 * s.dec.k
      + 2 ^ 15 * s.sync.pos
      + (if s.sync.ph = .seekSpace then 2 ^ 18 else 0) := by
  simp only [statusWord, toNat_append_eq_add, BitVec.toNat_ofNat, BitVec.toNat_ofBool, ite_weight_eq_mul,
    isSome_eq_decide_ne_none, beq_eq_decide, Bool.decide_eq_true]
  omega

/-- `RD` of `STATUS` reads the `STATUS` word into `rdata` (R184). -/
theorem exec_rdStatus (s : State) : exec .rdStatus s = .next (afterRead (statusWord s) s) := rfl

/-- Settles O19: the word's number is that of `statusWord_toNat`, and the two codes are those R16 and R17 give. -/
theorem rdStatusPacksTheStatusFields : Obligations.RdStatusPacksTheStatusFields := by
  intro s hk hpos
  have hword : statusWord s = BitVec.ofNat 32 (statusWord s).toNat := by simp
  rw [exec_rdStatus, hword, statusWord_toNat hk hpos]
  congr!
  · cases s.ctl.run <;> rfl
  · cases s.ctl.err <;> rfl

/-! ### Reset (R32) -/

/-- Settles O7: each group of the reset state is the group's own reset value, which has the table's values. -/
theorem resetStateHoldsTheTableValues : Obligations.ResetStateHoldsTheTableValues :=
  ⟨rfl, rfl, rfl, rfl, rfl, rfl, rfl⟩

end Sys2Proof.Machine
end

section
/-!
PROOFS. The family of spec/30_encoding.md: command words decode by `op`, and by `reg` for `CFG` and `RD` (R62). A word
written as three fields is `cmdWord` of them, so its fields read back; what is left is a row of a table.
-/

namespace Sys2Proof.Decode

/-- A command word written as its three fields decodes, and is never rejected (R61). -/
theorem decode_append (op reg : BitVec 4) (d : Word32) :
    decode (.cmd (op ++ reg ++ d)) = .ok (cmdInstr (cmdWord op reg d)) := rfl

/-- `CFG` goes by its register index (R62). -/
theorem cmdInstr_cfg (reg : BitVec 4) (d : Word32) : cmdInstr (cmdWord 0x1#4 reg d) = cfgInstr reg d := by
  simp [cmdInstr]

/-- `RD` goes by its register index, and ignores the payload (R62). -/
theorem cmdInstr_rd (reg : BitVec 4) (d : Word32) : cmdInstr (cmdWord 0x7#4 reg d) = rdInstr reg := by
  simp [cmdInstr]

/-- Settles O5: a word is made of its fields; `CFG` and `RD` go on to the register tables, every other operation reads
`op` and at most the payload. The literal `op` or `reg` then selects its row. -/
theorem commandWordsDecodeByOpAndRegister : Obligations.CommandWordsDecodeByOpAndRegister := by
  refine ⟨fun w => ⟨opField w, regField w, dataField w, (cmdWord_fields w).symm⟩, fun reg d => ?_⟩
  simp only [decode_append, cmdInstr_cfg, cmdInstr_rd]
  simp only [cmdInstr, opField_cmdWord, dataField_cmdWord]
  and_intros <;> rfl

end Sys2Proof.Decode
end

section
/-!
PROOFS. The family of spec/41_tone_detector.md, the rows (R85, R86). Each operation of the pipeline agrees with its closed
form of Sys2Proof/Safety.lean, from the decoder back to the sample, so that a statement about a closed form is one about
the operation.
-/

namespace Sys2Proof.Machine

/-! ### The operations and their closed forms -/

/-- `DEC.PUSH` (R136). -/
theorem decPush_eq_afterPush (b : Bit) (s : State) : decPush b s = afterPush b s := by
  by_cases hk : s.dec.k = 7
  · rw [decPush_last hk, afterPush, if_pos hk]
    rfl
  · rw [decPush_open (by omega), afterPush, if_neg hk]
    simp only [pushBit, isDataPos_iff]

/-- `emit_bit` (R9). -/
theorem emitBit_eq_afterBit (b : Bit) (s : State) : emitBit b s = afterBit b s := decPush_eq_afterPush _ _

/-- A symbol counts as a vote at positions 1 to 5, if it is a mark (R117 step 1). -/
theorem voteSum_eq (b : Bit) (y : Sync) :
    voteSum b y = y.acc + (if 1 ≤ y.pos ∧ y.pos ≤ 5 ∧ b = b1 then 1 else 0) := by
  by_cases hp : 1 ≤ y.pos ∧ y.pos ≤ 5
  · simp [voteSum, isDataPos_iff, bitNat, hp]
  · have hn : ¬(1 ≤ y.pos ∧ y.pos ≤ 5 ∧ b = b1) := by tauto
    simp [voteSum, isDataPos_iff, hp, hn]

/-- `SYNC.EXTRACT` (R117). -/
theorem syncExtract_eq_afterSymbol (b : Bit) {s : State} (hph : s.sync.ph = .extract) :
    syncExtract b s = afterSymbol b s := by
  by_cases hlast : s.sync.pos + 1 = windowLength s.sync.w
  · rw [syncExtract_last hlast, emitBit_eq_afterBit, voteSum_eq]
    cases hw : s.sync.w <;> simp [afterSymbol, hph, hw, hw ▸ hlast]
  · rw [syncExtract_open hlast, voteSum_eq]
    cases hw : s.sync.w <;> simp_all [afterSymbol]

/-- `SYNC.STEP` (R114). -/
theorem syncStep_eq_afterSymbol (b : Bit) (s : State) : syncStep b s = afterSymbol b s := by
  cases hph : s.sync.ph with
  | seekMark => cases b <;> simp [syncStep, syncSeekMark, afterSymbol, hph]
  | seekSpace => cases b <;> simp [syncStep, syncSeekSpace, afterSymbol, hph]
  | extract => rw [← syncExtract_eq_afterSymbol b hph, syncStep, hph]

/-- `emit_sym` (R9). -/
theorem emitSym_eq_afterSym (b : Bit) (s : State) : emitSym b s = afterSym b s := syncStep_eq_afterSymbol _ _

/-- The flags of the open frame (R84, R86 steps 1 and 2). -/
theorem frameFlags_eq (s : State) : frameFlags s = (markFlag s, spaceFlag s) := by
  cases habs : s.cfg.abs <;> simp [frameFlags, markFlag, spaceFlag, habs, delayPower, registerPower]

/-- `FCLOSE` (R86). -/
theorem fclose_eq_afterFrame (s : State) : fclose s = afterFrame s := by
  rw [fclose, emitSym_eq_afterSym, frameFlags_eq]
  rfl

/-- `GSTEP` (R85). -/
theorem gstep_eq_afterSample (x : NumQ) (s : State) : gstep x s = afterSample x s := by
  have hfull : ((s.tone.n + 1 : Nat) : Int) = frameSize s ↔ (s.tone.n : Int) + 1 = s.cfg.frameSize.toInt := by
    rw [frameSize, sint32]; omega
  obtain ⟨h, hg⟩ | ⟨h, hg⟩ := gstep_cases x s
  · rw [hg, fclose_eq_afterFrame, afterSample, if_pos (hfull.1 h)]
    rfl
  · rw [hg, afterSample, if_neg (mt hfull.2 h)]
    rfl

/-- Settles O25: the two rows are the two operations. -/
theorem gstepAndFcloseRowsComplete : Obligations.GstepAndFcloseRowsComplete := fun s x =>
  ⟨congrArg Host.Outcome.next (gstep_eq_afterSample x s), congrArg Host.Outcome.next (fclose_eq_afterFrame s)⟩

end Sys2Proof.Machine
end

section
/-!
PROOFS. The family of spec/41_tone_detector.md, the sample run (R88). A list cut into groups of `f` is its whole groups and
the open group after them; a sample run over `p` has emitted the Symbols of the whole frames of `p` and holds the open
frame in its registers. One sample keeps this, so every sample run has it, and `END` closes what is open.
-/

namespace Sys2Proof.Machine

/-! ### Whole groups and the open group -/

section Groups

variable {α : Type} {f : Nat}

/-- The groups of `p` that have all their `f` elements. -/
def wholeGroups (f : Nat) (p : List α) : List (List α) :=
  (List.range (p.length / f)).map fun i => slice p (i * f) (i * f + f)

/-- What stands after the whole groups of `p`. -/
def openGroup (f : Nat) (p : List α) : List α := p.drop (p.length / f * f)

@[simp] theorem wholeGroups_nil : wholeGroups f ([] : List α) = [] := by simp [wholeGroups]

@[simp] theorem openGroup_nil : openGroup f ([] : List α) = [] := by simp [openGroup]

@[simp] theorem length_wholeGroups (p : List α) : (wholeGroups f p).length = p.length / f := by simp [wholeGroups]

/-- The whole groups and the open group leave no element out. -/
theorem div_mul_add_length_openGroup (p : List α) : p.length / f * f + (openGroup f p).length = p.length := by
  rw [openGroup, List.length_drop]
  exact Nat.add_sub_cancel' (Nat.div_mul_le_self _ _)

theorem length_openGroup_lt (p : List α) (hf : 0 < f) : (openGroup f p).length < f := by
  have := Nat.lt_div_mul_add (a := p.length) hf
  have := div_mul_add_length_openGroup (f := f) p
  omega

/-- A slice that ends inside `p` does not see what follows `p`. -/
theorem slice_append_of_le {p r : List α} {a b : Nat} (hb : b ≤ p.length) : slice (p ++ r) a b = slice p a b := by
  rw [slice, slice, List.take_append_of_le_length hb]

/-- A slice that ends at or past the end of `p` is a tail of `p`. -/
theorem slice_eq_drop {p : List α} {a b : Nat} (hb : p.length ≤ b) : slice p a b = p.drop a := by
  rw [slice, List.take_of_length_le hb]

/-- The whole groups of `p` stay where they are when `p` grows. -/
theorem map_slice_append (p r : List α) :
    ((List.range (p.length / f)).map fun i => slice (p ++ r) (i * f) (i * f + f)) = wholeGroups f p := by
  refine List.map_congr_left fun i hi => slice_append_of_le ?_
  calc i * f + f = (i + 1) * f := by ring
    _ ≤ p.length / f * f := Nat.mul_le_mul_right f (List.mem_range.1 hi)
    _ ≤ p.length := Nat.div_mul_le_self _ _

/-- The tail from the open group on, when `p` grows. -/
theorem drop_append_openGroup (p r : List α) : (p ++ r).drop (p.length / f * f) = openGroup f p ++ r :=
  List.drop_append_of_le_length (Nat.div_mul_le_self _ _)

/-- The element that fills the open group: it becomes a whole group, and the next one is empty. -/
theorem groups_concat_of_full {p : List α} (x : α) (hf : 0 < f) (hfull : (openGroup f p).length + 1 = f) :
    wholeGroups f (p ++ [x]) = wholeGroups f p ++ [openGroup f p ++ [x]] ∧ openGroup f (p ++ [x]) = [] := by
  have hp := div_mul_add_length_openGroup (f := f) p
  have hlen : (p ++ [x]).length = p.length / f * f + f := by simp; omega
  have hdiv : (p ++ [x]).length / f = p.length / f + 1 := by
    rw [hlen, Nat.add_div_right _ hf, Nat.mul_div_cancel _ hf]
  constructor
  · rw [wholeGroups, hdiv, List.range_succ, List.map_append, map_slice_append, List.map_singleton,
      slice_eq_drop hlen.le, drop_append_openGroup]
  · rw [openGroup, hdiv, Nat.succ_mul, ← hlen, List.drop_length]

/-- Any other element joins the open group. -/
theorem groups_concat_of_open {p : List α} (x : α) (hf : 0 < f) (hopen : (openGroup f p).length + 1 ≠ f) :
    wholeGroups f (p ++ [x]) = wholeGroups f p ∧ openGroup f (p ++ [x]) = openGroup f p ++ [x] := by
  have hp := div_mul_add_length_openGroup (f := f) p
  have hlt := length_openGroup_lt p hf
  have hdiv : (p ++ [x]).length / f = p.length / f := by
    refine Nat.div_eq_of_lt_le ?_ ?_
    · simp; omega
    · rw [Nat.succ_mul]; simp; omega
  constructor
  · rw [wholeGroups, hdiv, map_slice_append]
  · rw [openGroup, hdiv, drop_append_openGroup]

/-- The groups of a list (R81, R131): the whole ones, and the open one if it has an element. -/
theorem groups_eq (p : List α) (hf : 0 < f) :
    groups f p = wholeGroups f p ++ if openGroup f p = [] then [] else [openGroup f p] := by
  have hp := div_mul_add_length_openGroup (f := f) p
  have hlt := length_openGroup_lt p hf
  split
  case isTrue hnil =>
    have hceil : ceilDiv p.length f = p.length / f := by
      rw [hnil] at hp
      refine Nat.div_eq_of_lt_le ?_ ?_
      · omega
      · rw [Nat.succ_mul]; simp at hp; omega
    rw [groups, hceil, List.append_nil, wholeGroups]
  case isFalse hne =>
    have hpos := List.length_pos_of_ne_nil hne
    have hceil : ceilDiv p.length f = p.length / f + 1 := by
      refine Nat.div_eq_of_lt_le ?_ ?_
      · rw [Nat.succ_mul]; omega
      · rw [Nat.succ_mul, Nat.succ_mul]; omega
    rw [groups, hceil, List.range_succ, List.map_append, List.map_singleton, slice_eq_drop (by omega)]
    rfl

/-- The first groups of a list are its whole ones. -/
theorem take_groups (p : List α) (hf : 0 < f) : (groups f p).take (p.length / f) = wholeGroups f p := by
  rw [groups_eq p hf, ← length_wholeGroups, List.take_left]

end Groups

/-! ### What a frame leaves in the registers -/

/-- What the batch functions take from the configuration, as the block reads it in `s` (R191). -/
def decodeCfg (s : State) : DecodeCfg := ⟨frameSize s, coeff .mark s, coeff .space s, s.cfg.abs, threshold s⟩

/-- The batch functions' values depend on the configuration and the model's input count alone. -/
theorem decodeCfg_congr {s t : State} (hc : t.cfg = s.cfg) (he : t.env = s.env) : decodeCfg t = decodeCfg s := by
  have hf : t.env.free = s.env.free := by rw [he]
  rw [decodeCfg, frameSize_congr hc, coeff_congr _ hc hf, coeff_congr _ hc hf, threshold_congr hc hf, hc]
  rfl

/-- The tone_detector's count and registers are those of the open frame `fr` (R21, R82). -/
structure HoldsFrame (fr : List NumQ) (s : State) : Prop where
  count : s.tone.n = fr.length
  mark : s.tone.mark = fr.foldl (channelStep (coeff .mark s)) .zero
  space : s.tone.space = fr.foldl (channelStep (coeff .space s)) .zero

/-- A sample joins the open frame (R85 steps 1 and 2). -/
theorem HoldsFrame.takeSample {fr : List NumQ} {s : State} (h : HoldsFrame fr s) (x : NumQ) :
    HoldsFrame (fr ++ [x]) (takeSample x s) where
  count := by simp [h.count]
  mark := by rw [takeSample_mark, h.mark, List.foldl_concat]; rfl
  space := by rw [takeSample_space, h.space, List.foldl_concat]; rfl

/-- The detector holds nothing of a closed frame (R86 step 3). -/
theorem HoldsFrame.fclose (s : State) : HoldsFrame [] (fclose s) := by
  constructor <;> rw [fclose_tone] <;> rfl

/-- The flags of the open frame are those of the batch definition (R84, R86, R91). -/
theorem HoldsFrame.frameFlags_eq {fr : List NumQ} {s : State} (h : HoldsFrame fr s) :
    frameFlags s = flagsOf (decodeCfg s) fr := by
  rw [frameFlags, h.mark, h.space]
  rfl

/-! ### What reaches `tap_sym` -/

/-- The decoder appends no Symbol. -/
theorem decEmit_tapSym (s : State) : (decEmit s).str.tapSym = s.str.tapSym := rfl

theorem decFlush_tapSym (s : State) : (decFlush s).str.tapSym = s.str.tapSym := by
  obtain ⟨_, h⟩ | ⟨_, h⟩ := decFlush_cases s <;> rw [h]
  exact decEmit_tapSym s

theorem emitBit_tapSym (b : Bit) (s : State) : (emitBit b s).str.tapSym = s.str.tapSym := by
  rw [emitBit, decPush]
  split <;> rfl

/-- The synchronizer appends no Symbol. -/
theorem syncStep_tapSym (b : Bit) (s : State) : (syncStep b s).str.tapSym = s.str.tapSym := by
  rw [syncStep]
  split
  · rw [syncSeekMark]; split <;> rfl
  · rw [syncSeekSpace]; split <;> rfl
  · rw [syncExtract]; split
    · exact emitBit_tapSym _ _
    · rfl

/-- `FCLOSE` appends the frame's Symbol (R86 step 4, R100). -/
theorem fclose_tapSym (s : State) : (fclose s).str.tapSym = s.str.tapSym ++ [(frameFlags s).1] := by
  rw [fclose, emitSym, syncStep_tapSym, fbx_eq]

/-! ### A sample run -/

/-- `s` stands in a sample run with configuration `c` that has taken the samples `p`: it has emitted the Symbols of the
whole frames of `p` and holds the open one. -/
structure SampleRun (c : DecodeCfg) (p : List NumQ) (s : State) : Prop where
  running : s.ctl.run = .run
  source : s.cfg.src = .samples
  cfg_eq : decodeCfg s = c
  seen : p ≠ [] → s.tone.seen = b1
  holds : HoldsFrame (openGroup c.frameSize.toNat p) s
  tapSym : s.str.tapSym = symbolSeq ((wholeGroups c.frameSize.toNat p).map (flagsOf c))

/-- `START` is accepted outside `RUN` when no value it needs is missing (R185, R193). -/
theorem accepted_start (s : State) : accepted .start s = (s.ctl.run != .run && !missesValue s.cfg) := by
  have hnone (r : Option Word32) : (r == none) = r.isNone := by cases r <;> rfl
  rw [missesValue, ← hnone, ← hnone, ← hnone]
  rfl

/-- An accepted `START` with a positive frame size opens the run (R185). -/
theorem exec_start_of_accepted {s : State} (hacc : accepted .start s = true) (hsize : 0 < frameSize s) :
    exec .start s = .next (setRun .run (clearRun s)) := by
  rw [accepted_start, Bool.and_eq_true, bne_iff_ne, Bool.not_eq_true'] at hacc
  obtain ⟨hrun, hval⟩ := hacc
  obtain ⟨hbad, _⟩ | ⟨_, _, ⟨_, hle⟩, _⟩ | ⟨_, _, _, h⟩ := execStart_cases s
  · simp [hrun, hval] at hbad
  · omega
  · exact h

/-- A run just opened has taken no sample. -/
theorem SampleRun.opened {s : State} (hsrc : s.cfg.src = .samples) :
    SampleRun (decodeCfg s) [] (setRun .run (clearRun s)) where
  running := rfl
  source := hsrc
  cfg_eq := rfl
  seen h := absurd rfl h
  holds := by rw [openGroup_nil]; exact ⟨rfl, rfl, rfl⟩
  tapSym := by rw [wholeGroups_nil]; rfl

/-- After a sample, one has been seen (R85 step 2); closing a frame keeps that. -/
theorem gstep_seen (x : NumQ) (s : State) : (gstep x s).tone.seen = b1 := by
  obtain ⟨_, h⟩ | ⟨_, h⟩ := gstep_cases x s <;> rw [h]
  · rw [fclose_tone]; rfl
  · rfl

/-- One sample (R85): the frame it fills is closed, any other stays open. -/
theorem SampleRun.gstep {c : DecodeCfg} {p : List NumQ} {s : State} (h : SampleRun c p s) (hsize : 0 < c.frameSize)
    (x : NumQ) : SampleRun c (p ++ [x]) (gstep x s) := by
  obtain ⟨hcfg, hctl, henv⟩ := gstep_frame x s
  have htaken := h.holds.takeSample x
  have hF : frameSize s = c.frameSize := congrArg DecodeCfg.frameSize h.cfg_eq
  have hn := h.holds.count
  obtain ⟨hholds, hsym⟩ : HoldsFrame (openGroup c.frameSize.toNat (p ++ [x])) (Machine.gstep x s)
      ∧ (Machine.gstep x s).str.tapSym = symbolSeq ((wholeGroups c.frameSize.toNat (p ++ [x])).map (flagsOf c)) := by
    obtain ⟨hfull, hg⟩ | ⟨hopen, hg⟩ := gstep_cases x s <;> rw [hg]
    · obtain ⟨hwhole, hrest⟩ := groups_concat_of_full (f := c.frameSize.toNat) (p := p) x (by omega) (by omega)
      rw [hwhole, hrest, fclose_tapSym, htaken.frameFlags_eq, takeSample_str, h.tapSym]
      exact ⟨HoldsFrame.fclose _, by simp [symbolSeq, ← h.cfg_eq, decodeCfg_congr (takeSample_cfg s x) rfl]⟩
    · obtain ⟨hwhole, hrest⟩ := groups_concat_of_open (f := c.frameSize.toNat) (p := p) x (by omega) (by omega)
      rw [hwhole, hrest]
      exact ⟨htaken, h.tapSym⟩
  exact ⟨by rw [hctl, h.running], by rw [hcfg, h.source], by rw [decodeCfg_congr hcfg henv, h.cfg_eq],
    fun _ => gstep_seen x s, hholds, hsym⟩

/-- A `SAMPLE` of an open sample run is a `GSTEP` (R186). -/
theorem exec_sample_of_running {s : State} (w : Word32) (hrun : s.ctl.run = .run) (hsrc : s.cfg.src = .samples) :
    exec (.sample w) s = .next (gstep (q16 w) s) := by
  rw [exec, execSample, feed, if_pos ⟨hrun, hsrc⟩]

/-- `SAMPLES buf` (R73) takes the samples of `buf`. -/
theorem SampleRun.samples {c : DecodeCfg} (hsize : 0 < c.frameSize) (buf : List Word32) :
    ∀ {p : List NumQ} {s : State}, SampleRun c p s →
      ∃ t, execAll (Asm.samples buf) s = .next t ∧ SampleRun c (p ++ buf.map q16) t := by
  induction buf with
  | nil => exact fun {p s} h => ⟨s, rfl, by simpa using h⟩
  | cons w ws ih =>
    intro p s h
    obtain ⟨t, ht, hrun⟩ := ih (h.gstep hsize (q16 w))
    refine ⟨t, ?_, by simpa using hrun⟩
    rw [Asm.samples, List.map_cons, execAll, exec_sample_of_running w h.running h.source]
    exact ht

/-- `END` closes the frame that is open, if one is (R87, R189 step 2). -/
theorem SampleRun.closeShortFrame_tapSym {c : DecodeCfg} {p : List NumQ} {s : State} (h : SampleRun c p s)
    (hsize : 0 < c.frameSize) :
    (closeShortFrame s).str.tapSym = symbolSeq ((groups c.frameSize.toNat p).map (flagsOf c)) := by
  have hn := h.holds.count
  rw [groups_eq p (by omega)]
  by_cases hnil : openGroup c.frameSize.toNat p = []
  · have hclosed : ¬(s.cfg.src = .samples ∧ 0 < s.tone.n) := by simp [hn, hnil]
    rw [closeShortFrame, if_neg hclosed, if_pos hnil, List.append_nil, h.tapSym]
  · have hopen : s.cfg.src = .samples ∧ 0 < s.tone.n := ⟨h.source, hn ▸ List.length_pos_of_ne_nil hnil⟩
    rw [closeShortFrame, if_pos hopen, if_neg hnil, fclose_tapSym, h.holds.frameFlags_eq, h.cfg_eq, h.tapSym]
    simp [symbolSeq]

/-- `END` after at least one sample: whether it finds the synchronizer in `EXTRACT` or raises, it appends the Symbol of
the short frame and no other (R189). -/
theorem SampleRun.endRun {c : DecodeCfg} {p : List NumQ} {s : State} (h : SampleRun c p s) (hsize : 0 < c.frameSize)
    (hp : p ≠ []) :
    ∃ t, exec .endRun s = .next t ∧ t.str.tapSym = symbolSeq ((groups c.frameSize.toNat p).map (flagsOf c)) := by
  rw [← h.closeShortFrame_tapSym hsize]
  obtain ⟨hidle, _⟩ | ⟨_, ⟨_, hunseen⟩, _⟩ | ⟨_, _, _, _, ht⟩ | ⟨_, _, _, ht⟩ := execEndRun_cases s
  · exact absurd h.running hidle
  · simp [h.seen hp] at hunseen
  · exact ⟨_, ht, rfl⟩
  · exact ⟨_, ht, decFlush_tapSym _⟩

/-- A list of instructions runs part by part. -/
theorem execAll_append {is : List Instr} (js : List Instr) {s t : State} (h : execAll is s = .next t) :
    execAll (is ++ js) s = execAll js t := by
  induction is generalizing s with
  | nil =>
    cases h
    rfl
  | cons i is ih =>
    obtain ⟨u, hu⟩ := exec_next i s
    simp only [List.cons_append, execAll, hu] at h ⊢
    exact ih h

/-- Settles O44: `START` opens a sample run, the samples carry it on, and `END` closes the frame they left open. -/
theorem sampleRunProducesTheBatchSymbols : Obligations.SampleRunProducesTheBatchSymbols := by
  intro s t0 buf hsrc hsize hacc hstart c hc
  obtain rfl : setRun .run (clearRun s) = t0 := by simpa [exec_start_of_accepted hacc hsize] using hstart
  obtain rfl : c = decodeCfg s := hc
  obtain ⟨t, ht, hrun⟩ := (SampleRun.opened hsrc).samples hsize buf
  rw [List.nil_append] at hrun
  refine ⟨⟨t, ht, ?_⟩, fun hbuf => ?_⟩
  · have hF : 0 < (frameSize s).toNat := by omega
    have htake := take_groups (buf.map q16) hF
    rw [List.length_map] at htake
    rw [hrun.tapSym, symbolSeq, symbolSeq, toneFlagsSeq, ← List.map_take, ← List.map_take, frames, decodeCfg, htake]
  · obtain ⟨u, hu, hsym⟩ := hrun.endRun hsize (by simpa using hbuf)
    refine ⟨u, ?_, hsym⟩
    rw [execAll_append _ ht, execAll, hu]
    rfl

end Sys2Proof.Machine
end

section
/-!
PROOFS. The family of spec/43_bit_synchronizer.md, Phase A in the batch form (R111). A Symbol sequence is spaces, then
marks, then a space and the rest, as far as it goes; the anchor stands after that space, and there is none when the
sequence ends before it.
-/

namespace Sys2Proof.Machine

/-! ### The two scans -/

@[simp] theorem runLength_nil (b : Bit) : runLength b [] = 0 := rfl

@[simp] theorem runLength_cons_self (b : Bit) (s : List Bit) : runLength b (b :: s) = runLength b s + 1 := by
  simp [runLength]

@[simp] theorem runLength_cons_not (b : Bit) (s : List Bit) : runLength b ((!b) :: s) = 0 := by
  simp [runLength]

/-- A scan over `b` passes a run of `b`. -/
@[simp] theorem runLength_replicate_append (b : Bit) (n : Nat) (s : List Bit) :
    runLength b (List.replicate n b ++ s) = n + runLength b s := by
  induction n with
  | zero => simp
  | succ n ih => rw [List.replicate_succ, List.cons_append, runLength_cons_self, ih]; omega

@[simp] theorem runLength_replicate (b : Bit) (n : Nat) : runLength b (List.replicate n b) = n := by
  simpa using runLength_replicate_append b n []

theorem runLength_replicate_append_not (b : Bit) (n : Nat) (s : List Bit) :
    runLength b (List.replicate n b ++ (!b) :: s) = n := by simp

/-- A sequence is a run of `b`, and then either ends or goes on with the other Symbol. -/
theorem exists_eq_replicate_append (b : Bit) (sy : List Bit) :
    ∃ n, sy = List.replicate n b ∨ ∃ rest, sy = List.replicate n b ++ (!b) :: rest := by
  induction sy with
  | nil => exact ⟨0, .inl rfl⟩
  | cons c sy ih =>
    by_cases hc : c = b
    · obtain ⟨n, rfl | ⟨rest, rfl⟩⟩ := ih
      · exact ⟨n + 1, .inl (by simp [hc, List.replicate_succ])⟩
      · exact ⟨n + 1, .inr ⟨rest, by simp [hc, List.replicate_succ]⟩⟩
    · exact ⟨0, .inr ⟨sy, by simpa [Bool.eq_not] using hc⟩⟩

/-- What Phase A consumes when it succeeds: `n` spaces, `m + 1` marks and the space that ends the mark run. -/
def seekRun (n m : Nat) : List Bit := List.replicate n b0 ++ b1 :: (List.replicate m b1 ++ [b0])

@[simp] theorem length_seekRun (n m : Nat) : (seekRun n m).length = n + m + 2 := by
  simp [seekRun]; omega

/-- Where Phase A stands at the end of a sequence: before a mark, in the mark run, or past it. -/
theorem symbols_cases (sy : List Bit) :
    ∃ n, sy = List.replicate n b0
      ∨ ∃ m, sy = List.replicate n b0 ++ b1 :: List.replicate m b1
        ∨ ∃ rest, sy = seekRun n m ++ rest := by
  obtain ⟨n, rfl | ⟨sy', rfl⟩⟩ := exists_eq_replicate_append b0 sy
  · exact ⟨n, .inl rfl⟩
  · obtain ⟨m, rfl | ⟨rest, rfl⟩⟩ := exists_eq_replicate_append b1 sy'
    · exact ⟨n, .inr ⟨m, .inl rfl⟩⟩
    · exact ⟨n, .inr ⟨m, .inr ⟨rest, by simp [seekRun]⟩⟩⟩

/-! ### The anchor in each of the three cases -/

/-- The first scan reaches the end. -/
@[simp] theorem anchorOf_spaces (n : Nat) : anchorOf (List.replicate n b0) = none := by
  simp [anchorOf, firstMark]

/-- The first scan stops at the mark after `n` spaces, and the second passes the marks that follow it. -/
theorem firstSpaceAfterMark_eq (n : Nat) (s : List Bit) :
    firstMark (List.replicate n b0 ++ b1 :: s) = n
      ∧ firstSpaceAfterMark (List.replicate n b0 ++ b1 :: s) = n + (runLength b1 s + 1) := by
  have hmark : firstMark (List.replicate n b0 ++ b1 :: s) = n := runLength_replicate_append_not b0 n s
  refine ⟨hmark, ?_⟩
  rw [firstSpaceAfterMark, hmark, List.drop_left' (by simp), runLength_cons_self]

/-- The second scan reaches the end. -/
@[simp] theorem anchorOf_marks (n m : Nat) : anchorOf (List.replicate n b0 ++ b1 :: List.replicate m b1) = none := by
  obtain ⟨_, hspace⟩ := firstSpaceAfterMark_eq n (List.replicate m b1)
  simp [anchorOf, hspace]

/-- Both scans stop: the anchor is one past the space that ends the mark run. -/
@[simp] theorem anchorOf_seekRun_append (n m : Nat) (rest : List Bit) :
    anchorOf (seekRun n m ++ rest) = some (n + m + 2) := by
  have hsy : seekRun n m ++ rest = List.replicate n b0 ++ b1 :: (List.replicate m b1 ++ b0 :: rest) := by
    simp [seekRun]
  obtain ⟨hmark, hspace⟩ := firstSpaceAfterMark_eq n (List.replicate m b1 ++ b0 :: rest)
  have hmarks : runLength b1 (List.replicate m b1 ++ b0 :: rest) = m := runLength_replicate_append_not b1 m rest
  rw [hmarks] at hspace
  rw [hsy, anchorOf, hmark, hspace, if_neg (by simp), if_neg (by simp), ← Nat.add_assoc]

/-! ### The anchor by indices -/

/-- Index `j` holds a space with a mark before it. -/
def SpaceAfterMark (sy : List Bit) (j : Nat) : Prop := sy[j]? = some b0 ∧ ∃ i, i < j ∧ sy[i]? = some b1

/-- The anchor is one past the least index that holds a space with a mark before it, and fails if there is none: before
the first mark there are spaces alone, and from it on marks alone until the space that ends the run, if one comes. -/
theorem anchorOf_spec (sy : List Bit) :
    (anchorOf sy = none ∧ ∀ j, ¬SpaceAfterMark sy j)
      ∨ ∃ j, anchorOf sy = some (j + 1) ∧ SpaceAfterMark sy j ∧ ∀ k, k < j → ¬SpaceAfterMark sy k := by
  obtain ⟨n, rfl | ⟨m, rfl | ⟨rest, rfl⟩⟩⟩ := symbols_cases sy
  · refine .inl ⟨anchorOf_spaces n, ?_⟩
    grind [SpaceAfterMark]
  · refine .inl ⟨anchorOf_marks n m, ?_⟩
    grind [SpaceAfterMark]
  · refine .inr ⟨n + m + 1, anchorOf_seekRun_append n m rest, ⟨?_, n, ?_⟩, ?_⟩ <;>
      grind [SpaceAfterMark, seekRun]

theorem anchorOf_eq_none_iff (sy : List Bit) : anchorOf sy = none ↔ ∀ j, ¬SpaceAfterMark sy j := by
  obtain ⟨h, hno⟩ | ⟨j, h, hj, _⟩ := anchorOf_spec sy
  · simp [h, hno]
  · simp only [h, reduceCtorEq, false_iff]
    exact fun hno => hno j hj

theorem anchorOf_eq_some_iff (sy : List Bit) (j : Nat) :
    anchorOf sy = some (j + 1) ↔ SpaceAfterMark sy j ∧ ∀ k, k < j → ¬SpaceAfterMark sy k := by
  obtain ⟨h, hno⟩ | ⟨i, h, hi, hleast⟩ := anchorOf_spec sy
  · simp [h, hno]
  · rw [h, Option.some.injEq, Nat.add_right_cancel_iff]
    constructor
    · rintro rfl
      exact ⟨hi, hleast⟩
    · rintro ⟨hj, hleast'⟩
      exact le_antisymm (not_lt.1 fun hlt => hleast j hlt hj) (not_lt.1 fun hlt => hleast' i hlt hi)

/-- An anchor is never 0. -/
theorem exists_eq_add_one_of_anchorOf {sy : List Bit} {a : Nat} (h : anchorOf sy = some a) : ∃ j, a = j + 1 := by
  obtain ⟨hnone, _⟩ | ⟨j, hj, _⟩ := anchorOf_spec sy
  · simp [hnone] at h
  · exact ⟨j, by simpa [h] using hj⟩

/-- Settles O42: the least space after a mark, its place in the sequence, and the failure when there is none. -/
theorem anchorIsPastTheFirstSpaceAfterAMark : Obligations.AnchorIsPastTheFirstSpaceAfterAMark := by
  intro sy
  constructor
  · intro a ha
    obtain ⟨j, rfl⟩ := exists_eq_add_one_of_anchorOf ha
    obtain ⟨⟨hj, i, hij, hi⟩, hleast⟩ := (anchorOf_eq_some_iff sy j).1 ha
    obtain ⟨hlen, _⟩ := List.getElem?_eq_some_iff.1 hj
    exact ⟨by omega, hlen, hj, ⟨i, hij, hi⟩, fun k hk hk0 i' hi' hi1 => hleast k hk ⟨hk0, i', hi', hi1⟩⟩
  · rw [anchorOf_eq_none_iff]
    constructor
    · rintro hno ⟨i, j, hij, hi, hj⟩
      exact hno j ⟨hj, i, hij, hi⟩
    · rintro hno j ⟨hj, i, hij, hi⟩
      exact hno ⟨i, j, hij, hi, hj⟩

/-- The scans of R111 go forward: the first `m` Symbols have the sequence's anchor if they hold the space that fixes it,
and else none. -/
theorem anchorOf_take {sy : List Bit} {a : Nat} (ha : anchorOf sy = some a) (m : Nat) :
    anchorOf (sy.take m) = if a ≤ m then some a else none := by
  have htake (j : Nat) : SpaceAfterMark (sy.take m) j ↔ SpaceAfterMark sy j ∧ j < m := by
    by_cases hjm : j < m
    · have hin (i : Nat) (hi : i ≤ j) : (sy.take m)[i]? = sy[i]? := List.getElem?_take_of_lt (by omega)
      rw [SpaceAfterMark, SpaceAfterMark, hin j le_rfl, and_iff_left hjm]
      exact and_congr_right fun _ => exists_congr fun i => and_congr_right fun hi => by rw [hin i hi.le]
    · simp [SpaceAfterMark, hjm]
  obtain ⟨j, rfl⟩ := exists_eq_add_one_of_anchorOf ha
  obtain ⟨hj, hleast⟩ := (anchorOf_eq_some_iff sy j).1 ha
  split
  case isTrue hm =>
    exact (anchorOf_eq_some_iff _ j).2 ⟨(htake j).2 ⟨hj, hm⟩, fun k hk h => hleast k hk ((htake k).1 h).1⟩
  case isFalse hm =>
    refine (anchorOf_eq_none_iff _).2 fun k h => ?_
    obtain ⟨hk, hkm⟩ := (htake k).1 h
    exact hleast k (by omega) hk

end Sys2Proof.Machine
end

section
/-!
PROOFS. The family of spec/43_bit_synchronizer.md, Phase B in the batch form (R112): what the loop of R112 consumes and
what it emits, started with either window.
-/

namespace Sys2Proof.Machine

/-! ### The windows after the anchor -/

/-- How many symbols `q` windows consume when the first has length `w` and each next one the other length (R117). -/
def spanFrom : WindowLen → Nat → Nat
  | _, 0 => 0
  | w, q + 1 => windowLength w + spanFrom (flipWindow w) q

/-- R112 and R47 state it in closed form for a start with seven. -/
theorem spanFrom_seven : ∀ q, spanFrom .seven q = windowSpan q
  | 0 => rfl
  | 1 => rfl
  | q + 2 => by
    have ih := spanFrom_seven q
    simp only [spanFrom, flipWindow_seven, flipWindow_eight, windowLength_seven, windowLength_eight, ih, windowSpan]
    omega

theorem windowLength_pos (w : WindowLen) : 0 < windowLength w := by
  cases w <;> decide

/-- A slice after a cut is one of the whole. -/
theorem slice_drop {α : Type} (s : List α) (a b n : Nat) : slice (s.drop n) a b = slice s (n + a) (n + b) := by
  rw [slice, slice, List.take_drop, List.drop_drop]

/-! ### The loop -/

/-- A whole window stands at the head: its vote comes first (R112). -/
theorem bitsFrom_succ_of_le {n : Nat} {w : WindowLen} {r : List Bit} (h : windowLength w ≤ r.length) :
    bitsFrom (n + 1) w r
      = vote (slice r 0 (windowLength w)) :: bitsFrom n (flipWindow w) (r.drop (windowLength w)) := by
  rw [bitsFrom, if_pos h]

/-- What is left is shorter than a window: it gives no bit (R112). -/
theorem bitsFrom_of_lt (n : Nat) {w : WindowLen} {r : List Bit} (h : r.length < windowLength w) :
    bitsFrom n w r = [] := by
  cases n with
  | zero => rfl
  | succ n => rw [bitsFrom, if_neg (by omega)]

/-- There are as many bits as whole windows, when the turns suffice. -/
theorem le_length_bitsFrom_iff {n : Nat} {w : WindowLen} {r : List Bit} (hn : r.length ≤ n) (q : Nat) :
    q ≤ (bitsFrom n w r).length ↔ spanFrom w q ≤ r.length := by
  induction n generalizing w r q with
  | zero =>
    have hw := windowLength_pos w
    cases q <;> simp [bitsFrom, spanFrom]
    omega
  | succ n ih =>
    cases q with
    | zero => simp [spanFrom]
    | succ q =>
      have hw := windowLength_pos w
      by_cases h : windowLength w ≤ r.length
      · rw [bitsFrom_succ_of_le h, List.length_cons, Nat.add_le_add_iff_right, ih (by simp; omega), List.length_drop,
          spanFrom]
        omega
      · rw [bitsFrom_of_lt _ (by omega), spanFrom]
        simp
        omega

/-- Bit `j` is the vote of window `j`. -/
theorem getElem?_bitsFrom {n : Nat} {w : WindowLen} {r : List Bit} {j : Nat} (hj : j < (bitsFrom n w r).length) :
    (bitsFrom n w r)[j]? = some (vote (slice r (spanFrom w j) (spanFrom w (j + 1)))) := by
  induction n generalizing w r j with
  | zero => simp [bitsFrom] at hj
  | succ n ih =>
    by_cases h : windowLength w ≤ r.length
    · rw [bitsFrom_succ_of_le h] at hj ⊢
      cases j with
      | zero => simp [spanFrom]
      | succ j =>
        rw [List.getElem?_cons_succ, ih (by simpa using hj), slice_drop]
        rfl
    · simp [bitsFrom_of_lt _ (not_le.1 h)] at hj

/-- Settles O43: the loop begins at the anchor, with a window of seven. -/
theorem bitsAreTheVotesOfTheWholeWindows : Obligations.BitsAreTheVotesOfTheWholeWindows := by
  refine ⟨fun sy => Option.map_eq_none_iff, fun sy bits a ha hbits => ?_⟩
  obtain rfl : bitsFrom sy.length .seven (sy.drop a) = bits := by simpa [bitsOf, ha] using hbits
  refine ⟨fun q => ?_, fun j hj => ?_⟩
  · rw [le_length_bitsFrom_iff (by simp), spanFrom_seven, List.length_drop]
  · rw [getElem?_bitsFrom hj, slice_drop, spanFrom_seven, spanFrom_seven]

end Sys2Proof.Machine
end

section
/-!
PROOFS. The family of spec/43_bit_synchronizer.md, the rows of the synchronizer (R114 to R119), and R121 for every
command.
-/

namespace Sys2Proof.Machine

/-! ### The rows -/

/-- Settles O27: each scan tests its symbol and moves on or waits. -/
theorem seekRowsMoveThePhase : Obligations.SeekRowsMoveThePhase := fun _ => ⟨rfl, rfl, rfl, rfl⟩

/-- `SYNC.END` once synchronised (R119). -/
theorem exec_syncEnd_of_synced {s : State} (h : s.sync.ph = .extract) : exec .syncEnd s = .next s := by
  obtain ⟨_, hend⟩ | ⟨hn, _⟩ := syncEnd_cases s
  · simp [exec, execSyncEnd, syncEndState, hend]
  · exact absurd h hn

/-- `SYNC.END` before that (R119, R201). -/
theorem exec_syncEnd_of_unsynced {s : State} (h : s.sync.ph ≠ .extract) :
    exec .syncEnd s = .next (afterError .syncNotFound s) := by
  obtain ⟨hs, _⟩ | ⟨_, hend⟩ := syncEnd_cases s
  · exact absurd hs h
  · simp [exec, execSyncEnd, syncEndState, hend, raise, afterError]

/-- Settles O28: `SYNC.STEP` agrees with its closed form, and `SYNC.END` goes by the phase. -/
theorem syncStepAndSyncEndRowsComplete : Obligations.SyncStepAndSyncEndRowsComplete := fun s b =>
  ⟨congrArg Host.Outcome.next (syncStep_eq_afterSymbol b s), exec_syncEnd_of_synced, exec_syncEnd_of_unsynced⟩

/-! ### `SYNC.STEP` in each phase (R114) -/

theorem syncStep_of_seekMark {s : State} (h : s.sync.ph = .seekMark) (b : Bit) : syncStep b s = syncSeekMark b s := by
  rw [syncStep, h]

theorem syncStep_of_seekSpace {s : State} (h : s.sync.ph = .seekSpace) (b : Bit) :
    syncStep b s = syncSeekSpace b s := by
  rw [syncStep, h]

theorem syncStep_of_extract {s : State} (h : s.sync.ph = .extract) (b : Bit) : syncStep b s = syncExtract b s := by
  rw [syncStep, h]

/-- What `emit_sym` does before `SYNC.STEP` (R9): the Symbol is appended and counted. -/
def countSymbol (b : Bit) (s : State) : State :=
  { s with str := { s.str with tapSym := s.str.tapSym ++ [b] }, cnt := { s.cnt with nsym := s.cnt.nsym + 1 } }

theorem emitSym_eq (b : Bit) (s : State) : emitSym b s = syncStep b (countSymbol b s) := rfl

/-! ### Synchronisation is single-shot (R121) -/

/-- The synchronizer has found its transition, at anchor `a`. -/
def SyncedAt (a : Nat) (s : State) : Prop := s.sync.ph = .extract ∧ s.sync.anchor = a

theorem SyncedAt.of_sync_eq {a : Nat} {s t : State} (h : SyncedAt a s) (hsync : t.sync = s.sync) : SyncedAt a t := by
  rwa [SyncedAt, hsync]

theorem SyncedAt.emitSym {a : Nat} {s : State} (h : SyncedAt a s) (b : Bit) : SyncedAt a (emitSym b s) := by
  obtain ⟨hph, hanchor⟩ : SyncedAt a (countSymbol b s) := h
  obtain ⟨_, _, _, _, hph', hanchor'⟩ := syncExtract_frame b (countSymbol b s)
  rw [emitSym_eq, syncStep_of_extract hph]
  exact ⟨hph'.trans hph, hanchor'.trans hanchor⟩

theorem SyncedAt.fclose {a : Nat} {s : State} (h : SyncedAt a s) : SyncedAt a (fclose s) :=
  SyncedAt.emitSym (s := { s with tone := closedTone (frameFlags s) s.tone }) h _

theorem SyncedAt.gstep {a : Nat} {s : State} (h : SyncedAt a s) (x : NumQ) : SyncedAt a (gstep x s) := by
  obtain ⟨_, hg⟩ | ⟨_, hg⟩ := gstep_cases x s <;> rw [hg]
  · exact SyncedAt.fclose (h.of_sync_eq rfl)
  · exact h.of_sync_eq rfl

/-- An input command keeps what its operation keeps; a refused one changes no group of the synchronizer. -/
theorem SyncedAt.feed {a : Nat} {s : State} (h : SyncedAt a s) (src : Source) {f : State → State}
    (hf : SyncedAt a (f s)) : SyncedAt a (feed src f s) := by
  obtain ⟨_, hfeed⟩ | ⟨_, hfeed⟩ := feed_cases src f s <;> rw [hfeed]
  · exact hf
  · exact h.of_sync_eq rfl

theorem SyncedAt.cfgWrite {a : Nat} {s : State} (h : SyncedAt a s) (f : Cfg → Cfg) : SyncedAt a (cfgWrite f s) := by
  obtain ⟨_, hw⟩ | ⟨_, hw⟩ := cfgWrite_cases f s <;> rw [hw] <;> exact h.of_sync_eq rfl

theorem SyncedAt.closeShortFrame {a : Nat} {s : State} (h : SyncedAt a s) : SyncedAt a (closeShortFrame s) := by
  rw [Machine.closeShortFrame]
  split
  · exact h.fclose
  · exact h

theorem SyncedAt.endRun {a : Nat} {s t : State} (h : SyncedAt a s) (ht : exec .endRun s = .next t) : SyncedAt a t := by
  change execEndRun s = .next t at ht
  obtain ⟨_, he⟩ | ⟨_, _, he⟩ | ⟨_, _, _, _, he⟩ | ⟨_, _, _, he⟩ := execEndRun_cases s <;> cases he.symm.trans ht
  · exact h.of_sync_eq rfl
  · exact h.of_sync_eq rfl
  · exact h.closeShortFrame.of_sync_eq rfl
  · obtain ⟨_, _, _, hsync, _⟩ := decFlush_frame (Machine.closeShortFrame s)
    exact h.closeShortFrame.of_sync_eq hsync

/-- Every command but `START` and `RST` keeps the synchronisation: the input commands by their operations, `END` by its
cases, and the others do not touch the synchronizer. -/
theorem SyncedAt.exec {a : Nat} {i : Instr} {s t : State} (h : SyncedAt a s) (hi : i.isCommand = true)
    (hstart : i ≠ .start) (hrst : i ≠ .rst) (ht : exec i s = .next t) : SyncedAt a t := by
  cases i
  case start => exact absurd rfl hstart
  case rst => exact absurd rfl hrst
  case sample w => cases ht; exact h.feed _ (h.gstep _)
  case sym b => cases ht; exact h.feed _ (h.emitSym b)
  case bit b =>
    cases ht
    obtain ⟨_, _, _, hsync, _⟩ := emitBit_frame b s
    exact h.feed _ (h.of_sync_eq hsync)
  case endRun => exact h.endRun ht
  case cfgMode abs src =>
    change execCfgMode abs src s = .next t at ht
    rw [execCfgMode] at ht
    split at ht <;> cases ht
    · exact h.of_sync_eq rfl
    · exact h.cfgWrite _
  case cfgFrameSize | cfgCoeffMark | cfgCoeffSpace | cfgThresh => cases ht; exact h.cfgWrite _
  case syncSeekMark | syncSeekSpace | syncExtractW7 | syncExtractW8 | gstep | fclose | syncStep | syncEnd | decPush
    | decFlush => exact absurd hi Bool.false_ne_true
  all_goals cases ht; exact h.of_sync_eq rfl

/-- Settles O55: the anchor of a synchronised state is the one it keeps. -/
theorem synchronisationIsSingleShot : Obligations.SynchronisationIsSingleShot :=
  fun _ _ _ hi hstart hrst hph ht => SyncedAt.exec ⟨hph, rfl⟩ hi hstart hrst ht

end Sys2Proof.Machine
end

section
/-!
PROOFS. The family of spec/43_bit_synchronizer.md, the symbol run (R122). Fed Symbol by Symbol, the synchronizer passes the
run of Symbols that the batch scans pass, and then each window that the batch loop consumes; so at the end of every
sequence it has the batch anchor and bits.
-/

namespace Sys2Proof.Machine

/-! ### The votes of a window -/

/-- The voted sum of the symbols of a window that have arrived (R113, R117 step 1). -/
def votes (v : List Bit) : Nat := ((slice v Config.firstDataPos (Config.lastDataPos + 1)).map bitNat).sum

theorem vote_eq (v : List Bit) : vote v = decide (3 ≤ votes v) := rfl

@[simp] theorem votes_nil : votes [] = 0 := rfl

/-- One more symbol counts if it stands at a data position. -/
theorem votes_concat (v : List Bit) (b : Bit) :
    votes (v ++ [b]) = if isDataPos v.length then votes v + bitNat b else votes v := by
  simp only [votes, isDataPos_iff, Config.firstDataPos, Config.lastDataPos]
  split
  case isTrue hpos =>
    rw [slice_eq_drop (p := v ++ [b]) (by simp; omega), slice_eq_drop (p := v) (by omega),
      List.drop_append_of_le_length hpos.1]
    simp
  case isFalse hpos =>
    by_cases hempty : v.length = 0
    · simp [List.length_eq_zero_iff.1 hempty, slice]
    · rw [slice_append_of_le (by omega)]

/-- `acc` goes with the open window (R117 step 1). -/
theorem voteSum_votes (b : Bit) (v : List Bit) (ph : Phase) (w : WindowLen) (a : Nat) :
    voteSum b ⟨ph, v.length, w, votes v, a⟩ = votes (v ++ [b]) := by
  rw [votes_concat, voteSum]

/-! ### A symbol run -/

/-- The Symbols `l` emitted one after another (R9). -/
def emitSyms (l : List Bit) (s : State) : State := l.foldl (fun t b => emitSym b t) s

@[simp] theorem emitSyms_nil (s : State) : emitSyms [] s = s := rfl

@[simp] theorem emitSyms_cons (b : Bit) (l : List Bit) (s : State) : emitSyms (b :: l) s = emitSyms l (emitSym b s) :=
  rfl

@[simp] theorem emitSyms_append (l l' : List Bit) (s : State) : emitSyms (l ++ l') s = emitSyms l' (emitSyms l s) :=
  List.foldl_append

/-- `SYMS l` (R73) in an open symbol run emits the Symbols of `l` (R187). -/
theorem execAll_syms (l : List Bit) {s : State} (hrun : s.ctl.run = .run) (hsrc : s.cfg.src = .symbols) :
    execAll (Asm.syms l) s = .next (emitSyms l s) := by
  induction l generalizing s with
  | nil => rfl
  | cons b l ih =>
    obtain ⟨hcfg, hctl, _, _⟩ := emitSym_frame b s
    have hb : exec (.sym b) s = .next (emitSym b s) := by rw [exec, execSym, feed, if_pos ⟨hrun, hsrc⟩]
    rw [Asm.syms, List.map_cons, execAll, hb]
    exact ih (by rw [hctl, hrun]) (by rw [hcfg, hsrc])

/-- What the synchronizer has done by `s`: its registers are `y`, it has counted `n` Symbols and emitted the BaudotBits
`bits`. -/
structure SyncRun (y : Sync) (n : Nat) (bits : List Bit) (s : State) : Prop where
  sync : s.sync = y
  nsym : s.cnt.nsym = n
  tapBit : s.str.tapBit = bits

/-- The decoder touches neither the count of Symbols nor `tap_bit`. -/
theorem decPush_taps (b : Bit) (s : State) :
    (decPush b s).cnt.nsym = s.cnt.nsym ∧ (decPush b s).str.tapBit = s.str.tapBit := by
  rw [decPush]
  split <;> exact ⟨rfl, rfl⟩

/-- `emit_bit` (R9), as the synchronizer's side sees it. -/
theorem SyncRun.emitBit {y : Sync} {n : Nat} {bits : List Bit} {s : State} (h : SyncRun y n bits s) (b : Bit) :
    SyncRun y n (bits ++ [b]) (emitBit b s) := by
  obtain ⟨_, _, _, hsync, _⟩ := emitBit_frame b s
  rw [Machine.emitBit] at hsync ⊢
  obtain ⟨hnsym, hbits⟩ := decPush_taps b
    { s with str := { s.str with tapBit := s.str.tapBit ++ [b] }, cnt := { s.cnt with nbit := s.cnt.nbit + 1 } }
  exact ⟨hsync.trans h.sync, hnsym.trans h.nsym, hbits.trans (by rw [← h.tapBit])⟩

/-- `emit_sym` counts a Symbol before the synchronizer takes it (R9). -/
theorem SyncRun.count {y : Sync} {n : Nat} {bits : List Bit} {s : State} (h : SyncRun y n bits s) (b : Bit) :
    SyncRun y (n + 1) bits (countSymbol b s) :=
  ⟨h.sync, congrArg (· + 1) h.nsym, h.tapBit⟩

section Seek

variable {w : WindowLen} {pos acc a n : Nat} {bits : List Bit} {s : State}

/-- A Symbol the scan does not look for (R115, R116): the synchronizer waits. -/
theorem SyncRun.wait {ph : Phase} {b : Bit} (h : SyncRun ⟨ph, pos, w, acc, a⟩ n bits s)
    (hb : ph = .seekMark ∧ b = b0 ∨ ph = .seekSpace ∧ b = b1) :
    SyncRun ⟨ph, pos, w, acc, a⟩ (n + 1) bits (emitSym b s) := by
  have hcount := h.count b
  obtain ⟨rfl, rfl⟩ | ⟨rfl, rfl⟩ := hb
  · rw [emitSym_eq, syncStep_of_seekMark (by rw [hcount.sync])]
    exact hcount
  · rw [emitSym_eq, syncStep_of_seekSpace (by rw [hcount.sync])]
    exact hcount

/-- The mark that ends the first scan (R115). -/
theorem SyncRun.mark (h : SyncRun ⟨.seekMark, pos, w, acc, a⟩ n bits s) :
    SyncRun ⟨.seekSpace, pos, w, acc, a⟩ (n + 1) bits (emitSym b1 s) := by
  obtain ⟨hsync, hnsym, hbits⟩ := h.count b1
  rw [emitSym_eq, syncStep_of_seekMark (by rw [hsync])]
  exact ⟨by simp [syncSeekMark, hsync], hnsym, hbits⟩

/-- The space that ends the second scan (R116): it is counted, and the anchor is that count. -/
theorem SyncRun.space (h : SyncRun ⟨.seekSpace, pos, w, acc, a⟩ n bits s) :
    SyncRun ⟨.extract, pos, w, acc, n + 1⟩ (n + 1) bits (emitSym b0 s) := by
  obtain ⟨hsync, hnsym, hbits⟩ := h.count b0
  rw [emitSym_eq, syncStep_of_seekSpace (by rw [hsync])]
  exact ⟨by simp [syncSeekSpace, hsync, hnsym], hnsym, hbits⟩

/-- A run of Symbols the scan does not look for. -/
theorem SyncRun.waits {ph : Phase} {b : Bit} (h : SyncRun ⟨ph, pos, w, acc, a⟩ n bits s)
    (hb : ph = .seekMark ∧ b = b0 ∨ ph = .seekSpace ∧ b = b1) (k : Nat) :
    SyncRun ⟨ph, pos, w, acc, a⟩ (n + k) bits (emitSyms (List.replicate k b) s) := by
  induction k generalizing n s with
  | zero => exact h
  | succ k ih =>
    rw [List.replicate_succ, emitSyms_cons, Nat.add_comm k, ← Nat.add_assoc]
    exact ih (h.wait hb)

/-- Spaces, a mark and more marks: Phase A waits for the next space. -/
theorem SyncRun.marks (h : SyncRun ⟨.seekMark, pos, w, acc, a⟩ n bits s) (k m : Nat) :
    SyncRun ⟨.seekSpace, pos, w, acc, a⟩ (n + k + 1 + m) bits
      (emitSyms (List.replicate k b0 ++ b1 :: List.replicate m b1) s) := by
  rw [emitSyms_append, emitSyms_cons]
  exact ((h.waits (.inl ⟨rfl, rfl⟩) k).mark).waits (.inr ⟨rfl, rfl⟩) m

/-- The whole of Phase A (R114 to R116). -/
theorem SyncRun.seek (h : SyncRun ⟨.seekMark, pos, w, acc, a⟩ n bits s) (k m : Nat) :
    SyncRun ⟨.extract, pos, w, acc, n + k + 1 + m + 1⟩ (n + k + 1 + m + 1) bits (emitSyms (seekRun k m) s) := by
  rw [seekRun, ← List.cons_append, ← List.append_assoc, emitSyms_append]
  exact (h.marks k m).space

end Seek

section Extract

variable {w : WindowLen} {a n : Nat} {bits : List Bit} {s : State}

/-- A Symbol inside a window (R117 steps 1 and 2): the window holds one more. -/
theorem SyncRun.extractOpen {v : List Bit} (b : Bit) (h : SyncRun ⟨.extract, v.length, w, votes v, a⟩ n bits s)
    (hv : (v ++ [b]).length < windowLength w) :
    SyncRun ⟨.extract, (v ++ [b]).length, w, votes (v ++ [b]), a⟩ (n + 1) bits (emitSym b s) := by
  obtain ⟨hsync, hnsym, hbits⟩ := h.count b
  have hopen : (countSymbol b s).sync.pos + 1 ≠ windowLength (countSymbol b s).sync.w := by
    rw [hsync]
    simpa using hv.ne
  rw [emitSym_eq, syncStep_of_extract (by rw [hsync]), syncExtract_open hopen, hsync, voteSum_votes]
  exact ⟨by simp, hnsym, hbits⟩

/-- The last Symbol of a window (R117 step 3): its vote is emitted and the other window opens. -/
theorem SyncRun.extractLast {v : List Bit} (b : Bit) (h : SyncRun ⟨.extract, v.length, w, votes v, a⟩ n bits s)
    (hv : (v ++ [b]).length = windowLength w) :
    SyncRun ⟨.extract, 0, flipWindow w, 0, a⟩ (n + 1) (bits ++ [vote (v ++ [b])]) (emitSym b s) := by
  obtain ⟨hsync, hnsym, hbits⟩ := h.count b
  have hlast : (countSymbol b s).sync.pos + 1 = windowLength (countSymbol b s).sync.w := by
    rw [hsync]
    simpa using hv
  rw [emitSym_eq, syncStep_of_extract (by rw [hsync]), syncExtract_last hlast, hsync, voteSum_votes,
    ← vote_eq]
  refine SyncRun.emitBit ?_ _
  exact ⟨rfl, hnsym, hbits⟩

/-- Less than a window, from its position 0, stays in `pos` and `acc`. -/
theorem SyncRun.openWindow (h : SyncRun ⟨.extract, 0, w, 0, a⟩ n bits s) (v : List Bit)
    (hv : v.length < windowLength w) :
    SyncRun ⟨.extract, v.length, w, votes v, a⟩ (n + v.length) bits (emitSyms v s) := by
  induction v using List.reverseRecOn with
  | nil => exact h
  | append_singleton v b ih =>
    have hlt : v.length < windowLength w := by simp at hv; omega
    rw [emitSyms_append, List.length_append, ← Nat.add_assoc, ← List.length_append]
    exact (ih hlt).extractOpen b hv

/-- A whole window, from its position 0, gives its vote (R113, R117). -/
theorem SyncRun.wholeWindow (h : SyncRun ⟨.extract, 0, w, 0, a⟩ n bits s) (v : List Bit)
    (hv : v.length = windowLength w) :
    SyncRun ⟨.extract, 0, flipWindow w, 0, a⟩ (n + v.length) (bits ++ [vote v]) (emitSyms v s) := by
  have hw := windowLength_pos w
  obtain rfl | ⟨v, b, rfl⟩ := List.eq_nil_or_concat' v
  · simp at hv; omega
  · have hlt : v.length < windowLength w := by simp at hv; omega
    rw [emitSyms_append, List.length_append, ← Nat.add_assoc]
    exact (h.openWindow v hlt).extractLast b hv

/-- The whole of Phase B: the bits of the batch loop, and the anchor kept (R112, R118, R121). -/
theorem SyncRun.windows (fuel : Nat) (r : List Bit) (h : SyncRun ⟨.extract, 0, w, 0, a⟩ n bits s)
    (hfuel : r.length ≤ fuel) :
    SyncedAt a (emitSyms r s) ∧ (emitSyms r s).str.tapBit = bits ++ bitsFrom fuel w r := by
  induction fuel generalizing w n bits s r with
  | zero =>
    obtain rfl := List.length_eq_zero_iff.1 (Nat.le_zero.1 hfuel)
    simp [SyncedAt, h.sync, h.tapBit, bitsFrom]
  | succ fuel ih =>
    have hw := windowLength_pos w
    by_cases hwhole : windowLength w ≤ r.length
    · have hstep := h.wholeWindow (r.take (windowLength w)) (by simp [hwhole])
      have hrest := ih (r.drop (windowLength w)) hstep (by simp; omega)
      rw [← emitSyms_append, List.take_append_drop, List.append_assoc] at hrest
      rwa [bitsFrom_succ_of_le hwhole]
    · have hopen := h.openWindow r (not_le.1 hwhole)
      rw [bitsFrom_of_lt _ (not_le.1 hwhole), List.append_nil, SyncedAt, hopen.sync]
      exact ⟨⟨rfl, rfl⟩, hopen.tapBit⟩

end Extract

/-! ### The two forms agree (R122) -/

/-- A sequence without an anchor leaves the synchronizer in Phase A, with no bits. -/
theorem SyncRun.of_anchorOf_eq_none {s : State} (h : SyncRun .reset 0 [] s) {sy : List Bit} (hsy : anchorOf sy = none) :
    (emitSyms sy s).sync.ph ≠ .extract ∧ (emitSyms sy s).str.tapBit = [] := by
  obtain ⟨k, rfl | ⟨m, rfl | ⟨rest, rfl⟩⟩⟩ := symbols_cases sy
  · have hend := SyncRun.waits h (.inl ⟨rfl, rfl⟩) k
    exact ⟨by rw [hend.sync]; decide, hend.tapBit⟩
  · have hend := SyncRun.marks h k m
    exact ⟨by rw [hend.sync]; decide, hend.tapBit⟩
  · simp at hsy

/-- A sequence with an anchor leaves it in Phase B, with the batch anchor and bits. -/
theorem SyncRun.of_anchorOf_eq_some {s : State} (h : SyncRun .reset 0 [] s) {sy : List Bit} {a : Nat}
    (hsy : anchorOf sy = some a) :
    SyncedAt a (emitSyms sy s) ∧ bitsOf sy = some (emitSyms sy s).str.tapBit := by
  obtain ⟨k, rfl | ⟨m, rfl | ⟨rest, rfl⟩⟩⟩ := symbols_cases sy
  · simp at hsy
  · simp at hsy
  · obtain rfl : k + m + 2 = a := by simpa using hsy
    have hanchor : 0 + k + 1 + m + 1 = k + m + 2 := by omega
    have hseek := SyncRun.seek h k m
    rw [hanchor] at hseek
    obtain ⟨hsynced, hbits⟩ := hseek.windows (seekRun k m ++ rest).length rest (by simp)
    rw [← emitSyms_append] at hsynced hbits
    refine ⟨hsynced, ?_⟩
    rw [hbits, bitsOf, hsy, Option.map_some, List.drop_left' (length_seekRun k m), List.nil_append]

/-- By the first `m` Symbols, bit `j` has been emitted iff they hold window `j` whole. -/
theorem SyncRun.lt_length_tapBit_iff {s : State} (h : SyncRun .reset 0 [] s) {sy : List Bit} {a : Nat}
    (hsy : anchorOf sy = some a) {m : Nat} (hm : m ≤ sy.length) (j : Nat) :
    j < (emitSyms (sy.take m) s).str.tapBit.length ↔ a + windowSpan (j + 1) ≤ m := by
  have htake := anchorOf_take hsy m
  split at htake
  case isTrue ham =>
    obtain ⟨_, hbits⟩ := h.of_anchorOf_eq_some htake
    obtain ⟨hcount, _⟩ := bitsAreTheVotesOfTheWholeWindows.2 _ _ a htake hbits
    rw [← Nat.add_one_le_iff, hcount, List.length_take, min_eq_left hm]
    omega
  case isFalse ham =>
    obtain ⟨_, hbits⟩ := h.of_anchorOf_eq_none htake
    rw [hbits]
    simp
    omega

/-- Settles O45: what a fresh symbol run leaves after a whole sequence, what `SYNC.END` then answers, and what it has
emitted by the first `m` Symbols. -/
theorem streamedSymbolsGiveTheBatchBits : Obligations.StreamedSymbolsGiveTheBatchBits := by
  intro s sy hrun hsrc hsync hnsym htap
  have hfresh : SyncRun .reset 0 [] s := ⟨hsync, hnsym, htap⟩
  refine ⟨emitSyms sy s, execAll_syms sy hrun hsrc, fun hnone => ?_, fun a ha => ?_⟩
  · obtain ⟨hph, hbits⟩ := hfresh.of_anchorOf_eq_none hnone
    exact ⟨exec_syncEnd_of_unsynced hph, hbits⟩
  · obtain ⟨⟨hph, hanchor⟩, hbits⟩ := hfresh.of_anchorOf_eq_some ha
    exact ⟨exec_syncEnd_of_synced hph, hanchor, hbits,
      fun m j hm => ⟨_, execAll_syms _ hrun hsrc, hfresh.lt_length_tapBit_iff ha hm j⟩⟩

end Sys2Proof.Machine
end

section
/-!
PROOFS. The family of spec/44_baudot_decoder.md: the decoder's rows (R136 to R138), the CodeTable (R140) and the bit run
(R139). Fed BaudotBit by BaudotBit, the decoder has emitted the characters of the whole chunks and holds the length and the
key of the open chunk; `DEC.FLUSH` then emits the character of that chunk, if it has a bit.
-/

namespace Sys2Proof.Machine

/-! ### The rows (R136 to R138) -/

/-- `DEC.EMIT` (R137). -/
theorem decEmit_eq_afterChar (s : State) : decEmit s = afterChar (keyChar s.dec.key) s := rfl

/-- `DEC.FLUSH` with no chunk open (R138). -/
theorem decFlush_of_closed {s : State} (h : s.dec.k = 0) : decFlush s = s := by
  rw [decFlush, if_neg (by omega)]

/-- `DEC.FLUSH` with a chunk open (R138). -/
theorem decFlush_of_open {s : State} (h : 1 ≤ s.dec.k) : decFlush s = decEmit s := by
  rw [decFlush, if_pos h]

/-- Settles O30: each row is its operation, and each operation has its closed form. -/
theorem decoderRowsPushEmitAndFlush : Obligations.DecoderRowsPushEmitAndFlush := fun s b =>
  ⟨congrArg Host.Outcome.next (decPush_eq_afterPush b s), congrArg Host.Outcome.next (decEmit_eq_afterChar s),
    fun hclosed => congrArg Host.Outcome.next (decFlush_of_closed hclosed),
    fun hopen => congrArg Host.Outcome.next (decFlush_of_open hopen)⟩

/-! ### The CodeTable (R140) -/

theorem length_key_of_mem_codeEntries : ∀ e ∈ codeEntries, e.1.length = 5 := by decide

/-- Looking an entry's key up finds that entry: no entry hides a later one. -/
theorem codeTable_of_mem_codeEntries : ∀ e ∈ codeEntries, codeTable e.1 = some e.2 := by decide

/-- No two characters of the table are the same. -/
theorem codeEntries_bytes_nodup : (codeEntries.map Prod.snd).Nodup := by decide

/-- The table's characters are the letters, NUL, SPACE, CR and LF. -/
theorem mem_codeEntries_bytes_iff (c : Byte) : c ∈ codeEntries.map Prod.snd ↔
    (0x41 ≤ c.toNat ∧ c.toNat ≤ 0x5A) ∨ c = 0x00 ∨ c = 0x20 ∨ c = 0x0D ∨ c = 0x0A := by
  simp only [codeEntries, List.map_cons, List.map_nil, List.mem_cons, List.not_mem_nil, or_false]
  bv_omega

/-- The five-bit keys without an entry. -/
theorem codeTable_eq_none_iff : ∀ k0 k1 k2 k3 k4 : Bit, codeTable [k0, k1, k2, k3, k4] = none ↔
    [k0, k1, k2, k3, k4] = [b1, b1, b0, b1, b1] ∨ [k0, k1, k2, k3, k4] = [b1, b1, b1, b1, b1] := by decide

/-- The one five-bit key whose entry is the space. -/
theorem codeTable_eq_space_iff : ∀ k0 k1 k2 k3 k4 : Bit, codeTable [k0, k1, k2, k3, k4] = some 0x20 ↔
    [k0, k1, k2, k3, k4] = [b0, b0, b1, b0, b0] := by decide

/-- A key gives a space by its entry or for want of one (R134). -/
theorem charOfKey_eq_space_iff (key : List Bit) : charOfKey key = 0x20 ↔
    codeTable key = some 0x20 ∨ codeTable key = none := by
  rw [charOfKey]
  cases codeTable key <;> simp

/-- The key of a frame is what stands between its start bit and its stop bits (R132). -/
theorem chunkKey_frame {key : List Bit} (hkey : key.length = 5) (a y z : Bit) : chunkKey (a :: key ++ [y, z]) = key := by
  rw [chunkKey, slice, List.take_left' (by simp [hkey])]
  rfl

/-- Settles O37: the counts and the two lists of exceptions are read off the table; the round trip holds because an entry's
key is both the key of its frame and found by the lookup. -/
theorem codeTableHasThirtyDistinctEntries : Obligations.CodeTableHasThirtyDistinctEntries := by
  refine ⟨rfl, by decide, codeEntries_bytes_nodup, mem_codeEntries_bytes_iff, codeTable_eq_none_iff,
    fun k0 k1 k2 k3 k4 => ?_, fun e he a y z => ?_⟩
  · rw [charOfKey_eq_space_iff, codeTable_eq_space_iff, codeTable_eq_none_iff]
  · rw [chunkChar, chunkKey_frame (length_key_of_mem_codeEntries e he), charOfKey, codeTable_of_mem_codeEntries e he]
    rfl

/-! ### The key of a growing chunk -/

/-- One more element joins a slice if it stands inside the slice's bounds. -/
theorem slice_concat {α : Type} (p : List α) (x : α) (a b : Nat) :
    slice (p ++ [x]) a b = if a ≤ p.length ∧ p.length < b then slice p a b ++ [x] else slice p a b := by
  by_cases hb : p.length < b
  · rw [slice_eq_drop (p := p ++ [x]) (by simp; omega), slice_eq_drop (p := p) hb.le]
    split
    case isTrue hin => exact List.drop_append_of_le_length hin.1
    case isFalse hout =>
      rw [List.drop_eq_nil_of_le (by simp; omega), List.drop_eq_nil_of_le (by omega)]
  · rw [if_neg (by omega), slice_append_of_le (by omega)]

/-- A BaudotBit joins the key at positions 1 to 5 (R132, R136 step 1). -/
theorem chunkKey_concat (ch : List Bit) (b : Bit) :
    chunkKey (ch ++ [b]) = if isDataPos ch.length then chunkKey ch ++ [b] else chunkKey ch := by
  simp only [chunkKey, slice_concat, isDataPos, Bool.and_eq_true, decide_eq_true_eq, Nat.lt_succ_iff]

/-! ### The decoder's part of a run -/

/-- What the decoder has done by `s` with the BaudotBits `p` of a run: it has emitted the characters of the whole chunks of
`p` and holds the length and the key of the open one. -/
structure DecRun (p : List Bit) (s : State) : Prop where
  k : s.dec.k = (openGroup Config.chunkLength p).length
  key : s.dec.key = chunkKey (openGroup Config.chunkLength p)
  out : s.str.out = (wholeGroups Config.chunkLength p).map chunkChar

/-- A decoder in its `START` state has taken no BaudotBit (R185). -/
theorem DecRun.fresh {s : State} (hdec : s.dec = .reset) (hout : s.str.out = []) : DecRun [] s := by
  constructor <;> simp [hdec, hout, Dec.reset, chunkKey, slice]

/-- One BaudotBit (R136): the chunk it fills is emitted, any other stays open. -/
theorem DecRun.decPush {p : List Bit} {s : State} (h : DecRun p s) (b : Bit) : DecRun (p ++ [b]) (decPush b s) := by
  have hk := h.k
  have hlen : Config.chunkLength = 8 := rfl
  by_cases hlast : s.dec.k = 7
  · obtain ⟨hwhole, hrest⟩ := groups_concat_of_full (f := Config.chunkLength) (p := p) b (by decide) (by omega)
    have hchar : chunkChar (openGroup Config.chunkLength p ++ [b]) = charOfKey s.dec.key := by
      rw [chunkChar, chunkKey_concat, ← hk, hlast, h.key]
      rfl
    rw [decPush_last hlast]
    constructor <;> simp [hwhole, hrest, hchar, h.out, chunkKey, slice]
  · obtain ⟨hwhole, hrest⟩ := groups_concat_of_open (f := Config.chunkLength) (p := p) b (by decide) (by omega)
    rw [decPush_open (by omega)]
    constructor
    · rw [hrest, pushBit_k, hk, List.length_append, List.length_singleton]
    · rw [hrest, pushBit_key, chunkKey_concat, h.key, hk]
    · rw [hwhole, pushBit_str, h.out]

/-- The count of BaudotBits and `tap_bit` are not the decoder's (R9). -/
theorem DecRun.emitBit {p : List Bit} {s : State} (h : DecRun p s) (b : Bit) : DecRun (p ++ [b]) (emitBit b s) := by
  rw [Machine.emitBit]
  refine DecRun.decPush ?_ b
  exact ⟨h.k, h.key, h.out⟩

/-- `DEC.FLUSH` completes the batch text (R135, R138). -/
theorem DecRun.decFlush_out {p : List Bit} {s : State} (h : DecRun p s) : (decFlush s).str.out = textOf p := by
  rw [textOf, chunks, groups_eq p (by decide)]
  by_cases hnil : openGroup Config.chunkLength p = []
  · rw [decFlush_of_closed (by simp [h.k, hnil]), if_pos hnil, List.append_nil, h.out]
  · rw [decFlush_of_open (h.k ▸ List.length_pos_of_ne_nil hnil), if_neg hnil, decEmit_eq, h.out, h.key, List.map_append]
    rfl

/-- Before that, what is emitted is the text of the full chunks (R139). -/
theorem DecRun.out_eq_take {p : List Bit} {s : State} (h : DecRun p s) : s.str.out = (textOf p).take (p.length / 8) := by
  rw [textOf, ← List.map_take, chunks, take_groups p (by decide), h.out]

/-! ### A bit run (R139) -/

/-- The BaudotBits `l` emitted one after another (R9). -/
def emitBits (l : List Bit) (s : State) : State := l.foldl (fun t b => emitBit b t) s

/-- `BITS l` (R73) in an open bit run emits the BaudotBits of `l` (R188). -/
theorem execAll_bits (l : List Bit) {s : State} (hrun : s.ctl.run = .run) (hsrc : s.cfg.src = .bits) :
    execAll (Asm.bits l) s = .next (emitBits l s) := by
  induction l generalizing s with
  | nil => rfl
  | cons b l ih =>
    obtain ⟨hcfg, hctl, _, _, _⟩ := emitBit_frame b s
    have hb : exec (.bit b) s = .next (emitBit b s) := by rw [exec, execBit, feed, if_pos ⟨hrun, hsrc⟩]
    rw [Asm.bits, List.map_cons, execAll, hb]
    exact ih (by rw [hctl, hrun]) (by rw [hcfg, hsrc])

/-- The decoder's part of a run goes on with each BaudotBit. -/
theorem DecRun.emitBits {p : List Bit} {s : State} (h : DecRun p s) (l : List Bit) :
    DecRun (p ++ l) (emitBits l s) := by
  induction l generalizing p s with
  | nil => rwa [List.append_nil]
  | cons b l ih =>
    rw [List.append_cons]
    exact ih (h.emitBit b)

/-- Settles O46: the BaudotBits of a fresh bit run leave the decoder with the whole chunks emitted, and the flush completes
the text. -/
theorem streamedBitsGiveTheBatchText : Obligations.StreamedBitsGiveTheBatchText := by
  intro s bs hrun hsrc hdec hout
  have hend : DecRun bs (emitBits bs s) := (DecRun.fresh hdec hout).emitBits bs
  refine ⟨emitBits bs s, _, execAll_bits bs hrun hsrc, rfl, hend.decFlush_out, hend.out_eq_take, ?_⟩
  rw [hend.out, List.length_map, length_wholeGroups]

end Sys2Proof.Machine
end

section
/-!
PROOFS. The family of spec/45_host_commands.md, command by command (R181 to R190): the word decodes to its row, and the
row does what its rule says, in the closed forms of Sys2Proof/Safety.lean.
-/

namespace Sys2Proof.Machine

open Decode

/-! ### RST, NOP and the reserved operations -/

/-- The `STATUS` word of the reset state is 0 (R31, R32). -/
theorem statusWord_reset : statusWord State.reset = 0 := by decide

/-- So is that after a reset in any state: the word reads no group but those reset. -/
theorem statusWord_resetBlock (s : State) : statusWord (resetBlock s) = 0 := statusWord_reset

/-- Settles O8: `RST` is the reset of the block, and each of its groups is the group's reset value. -/
theorem rstRestoresTheResetState : Obligations.RstRestoresTheResetState := by
  refine ⟨fun reg d => by simp [decode_append, cmdInstr], fun s => ?_⟩
  exact ⟨resetBlock s, rfl, rfl, rfl, rfl, rfl, rfl, rfl, rfl, _, exec_rdStatus _, statusWord_resetBlock s⟩

/-- Settles O10: op 0 is `NOP`, whose meaning is the state itself. -/
theorem nopChangesNothing : Obligations.NopChangesNothing :=
  ⟨fun reg d => by simp [decode_append, cmdInstr], fun _ => rfl⟩

/-- Settles O11: each reserved `op` has its own row, and each row is a refusal. -/
theorem reservedOperationsAreRefused : Obligations.ReservedOperationsAreRefused :=
  ⟨fun reg d => by simp [decode_append, cmdInstr], fun _ => ⟨rfl, rfl, rfl, rfl, rfl, rfl, rfl⟩⟩

/-! ### CFG (R183) -/

/-- In `RUN` every `CFG` is refused, a `CFG MODE` whichever of its two refusals comes first. -/
theorem exec_cfgInstr_of_running {s : State} (hrun : s.ctl.run = .run) (reg : BitVec 4) (d : Word32) :
    exec (cfgInstr reg d) s = .next (refuse s) := by
  have hwrite (f : Cfg → Cfg) : Host.Outcome.next (cfgWrite f s) = (.next (refuse s) : Result) := by
    rw [cfgWrite, if_pos hrun]
  rw [cfgInstr]
  split
  case h_4 =>
    change execCfgMode _ _ s = _
    rw [execCfgMode]
    split
    · rfl
    · exact hwrite _
  case h_1 | h_2 | h_3 | h_5 => exact hwrite _
  all_goals rfl

/-- The read-only and the reserved indices are refused in every state. -/
theorem exec_cfgInstr_of_not_writable {reg : BitVec 4} (hreg : 5 ≤ reg.toNat) (d : Word32) (s : State) :
    exec (cfgInstr reg d) s = .next (refuse s) := by
  rw [cfgInstr]
  split
  case h_1 | h_2 | h_3 | h_4 | h_5 => omega
  all_goals rfl

/-- Outside `RUN` a `CFG` to a writable register writes it. -/
theorem next_cfgWrite_of_not_running {s : State} (hrun : s.ctl.run ≠ .run) (f : Cfg → Cfg) :
    (.next (cfgWrite f s) : Result) = .next { s with cfg := f s.cfg } := by
  rw [cfgWrite, if_neg hrun]
  rfl

/-- The reserved `MODE.SRC` is refused whole (R14). -/
theorem exec_cfgMode_of_reserved {src : BitVec 2} (hsrc : src = 3) (abs : Bit) (s : State) :
    exec (.cfgMode abs src) s = .next (refuse s) := by
  subst hsrc
  rfl

/-- Outside `RUN` any other `MODE.SRC` is written, and `ABS` with it. -/
theorem exec_cfgMode_of_not_running {s : State} (hrun : s.ctl.run ≠ .run) {src : BitVec 2} {r : Source}
    (hsrc : src = srcCode r) (abs : Bit) :
    exec (.cfgMode abs src) s = .next { s with cfg := { s.cfg with abs := abs, src := r } } := by
  change execCfgMode abs src s = _
  rw [execCfgMode, hsrc, sourceOf_srcCode]
  exact next_cfgWrite_of_not_running hrun _

/-- Settles O15: the index selects the row; in `RUN` and from index 5 on every row refuses, outside `RUN` the five others
write, and the number read back is that of the word written (R63). -/
theorem cfgWordFollowsItsRule : Obligations.CfgWordFollowsItsRule := by
  intro s reg d
  refine ⟨cfgInstr reg d, congrArg Except.ok (cmdInstr_cfg reg d), fun hrun => exec_cfgInstr_of_running hrun reg d,
    fun hrun => ⟨?_, ?_, ?_, ?_, ?_, fun hreg => exec_cfgInstr_of_not_writable hreg d s⟩⟩
  case refine_4 =>
    rintro rfl
    exact ⟨fun hsrc => exec_cfgMode_of_reserved hsrc _ s,
      fun hsrc => exec_cfgMode_of_not_running (r := .samples) hrun hsrc _,
      fun hsrc => exec_cfgMode_of_not_running (r := .symbols) hrun hsrc _,
      fun hsrc => exec_cfgMode_of_not_running (r := .bits) hrun hsrc _⟩
  all_goals
    rintro rfl
    exact ⟨_, next_cfgWrite_of_not_running hrun _, rfl, rfl⟩

/-! ### RD (R184) and the observers of R192 -/

/-- `NOP` and `RD` write `rdata` and nothing else; `NOP` the value it has. -/
theorem exec_of_isObserver {i : Instr} (hi : isObserver i = true) (s : State) :
    ∃ v, exec i s = .next (setRdata v s) := by
  cases i
  case nop => exact ⟨s.ctl.rdata, rfl⟩
  case rdFrameSize | rdCoeffMark | rdCoeffSpace | rdMode | rdThresh | rdReserved5 | rdReserved6 | rdReserved7 | rdStatus
    | rdSymbolCount | rdBitCount | rdCharCount | rdSyncAnchor | rdReservedD | rdReservedE | rdReservedF => exact ⟨_, rfl⟩
  all_goals exact absurd hi Bool.false_ne_true

theorem isObserver_rdInstr (reg : BitVec 4) : isObserver (rdInstr reg) = true := by
  rw [rdInstr]
  split <;> rfl

/-- A command that reads `v` reads no other value. -/
theorem read_value_unique {i : Instr} {s : State} {v v' : Word32} (h : exec i s = .next (setRdata v s))
    (h' : exec i s = .next (setRdata v' s)) : v = v' := by
  have hnext : setRdata v s = setRdata v' s := by simpa [h] using h'
  exact congrArg (fun t => t.ctl.rdata) hnext

/-- The reserved indices read 0 (R30). -/
theorem exec_rdInstr_of_reserved {reg : BitVec 4} (hreg : 5 ≤ reg.toNat ∧ reg.toNat ≤ 7 ∨ 13 ≤ reg.toNat) (s : State) :
    exec (rdInstr reg) s = .next (setRdata 0 s) := by
  rw [rdInstr]
  split
  case h_6 | h_7 | h_8 | h_14 | h_15 | h_16 => rfl
  all_goals omega

/-- The fields of the `MODE` word (R30). -/
theorem modeWord_fields (c : Cfg) :
    (modeWord c).getLsbD 0 = c.abs ∧ (modeWord c).extractLsb' 1 2 = srcCode c.src ∧ (modeWord c).toNat < 8 := by
  rw [modeWord]
  cases c.src <;> cases c.abs <;> decide

/-- Settles O18: every index reads some value; which one, the row of the index says. -/
theorem rdWordFollowsItsRule : Obligations.RdWordFollowsItsRule := by
  intro s reg d
  obtain ⟨v, hv⟩ := exec_of_isObserver (isObserver_rdInstr reg) s
  refine ⟨rdInstr reg, v, congrArg Except.ok (cmdInstr_rd reg d), hv, ?_, ?_, ?_, ?_, ?_, ?_, ?_, ?_, ?_, ?_, ?_⟩
  case refine_4 =>
    rintro rfl
    rw [read_value_unique (v' := modeWord s.cfg) hv rfl]
    exact modeWord_fields s.cfg
  case refine_6 =>
    rintro rfl
    rfl
  case refine_7 | refine_8 | refine_9 | refine_10 =>
    rintro rfl
    exact (congrArg BitVec.toNat (read_value_unique hv rfl)).trans (BitVec.toNat_ofNat _ _)
  case refine_11 => exact fun hreg => read_value_unique hv (exec_rdInstr_of_reserved hreg s)
  all_goals
    rintro rfl
    exact read_value_unique hv rfl

/-! ### START (R185) -/

theorem exec_start_of_running {s : State} (hrun : s.ctl.run = .run) : exec .start s = .next (refuse s) := by
  obtain ⟨_, h⟩ | ⟨hn, _⟩ | ⟨hn, _⟩ := execStart_cases s
  · exact h
  · exact absurd hrun hn
  · exact absurd hrun hn

theorem exec_start_of_missing {s : State} (hmiss : missesValue s.cfg = true) : exec .start s = .next (refuse s) := by
  obtain ⟨_, h⟩ | ⟨_, hn, _⟩ | ⟨_, hn, _⟩ := execStart_cases s
  · exact h
  · simp [hmiss] at hn
  · simp [hmiss] at hn

/-- Step 5: the run is in error at once. -/
theorem exec_start_of_bad_size {s : State} (hrun : s.ctl.run ≠ .run) (hval : missesValue s.cfg = false)
    (hbad : s.cfg.src = .samples ∧ frameSize s ≤ 0) :
    exec .start s = .next (raise .invalidFrameSize (clearRun s)) := by
  obtain ⟨h, _⟩ | ⟨_, _, _, h⟩ | ⟨_, _, h, _⟩ := execStart_cases s
  · simp [hrun, hval] at h
  · exact h
  · exact absurd hbad h

/-- Step 6: the run is open. -/
theorem exec_start_of_good {s : State} (hrun : s.ctl.run ≠ .run) (hval : missesValue s.cfg = false)
    (hgood : ¬(s.cfg.src = .samples ∧ frameSize s ≤ 0)) : exec .start s = .next (setRun .run (clearRun s)) := by
  obtain ⟨h, _⟩ | ⟨_, _, h, _⟩ | ⟨_, _, _, h⟩ := execStart_cases s
  · simp [hrun, hval] at h
  · exact absurd h hgood
  · exact h

/-- No value that `START` needs is missing, in words (R185 steps 2 and 3). -/
theorem missesValue_eq_false_iff (c : Cfg) :
    missesValue c = false ↔
      (c.src = .samples → c.coeffMark ≠ none ∧ c.coeffSpace ≠ none ∧ (c.abs = b1 → c.thresh ≠ none)) := by
  rw [← Bool.not_eq_true, missesValue_iff]
  simp only [not_and, not_or, ne_eq]

/-- Settles O20: the refusals of steps 1 to 3 and the two outcomes of a `START` that passes them. -/
theorem startFollowsItsNumberedSteps : Obligations.StartFollowsItsNumberedSteps := by
  refine ⟨fun reg d => by simp [decode_append, cmdInstr], fun s => ⟨exec_start_of_running, ?_, ?_, ?_, ?_⟩⟩
  · intro hsrc hcoeff
    exact exec_start_of_missing ((missesValue_iff _).2 ⟨hsrc, hcoeff.imp_right .inl⟩)
  · intro hsrc habs hthresh
    exact exec_start_of_missing ((missesValue_iff _).2 ⟨hsrc, .inr (.inr ⟨habs, hthresh⟩)⟩)
  · intro hrun hsrc hmark hspace hthresh
    have hval := (missesValue_eq_false_iff s.cfg).2 fun _ => ⟨hmark, hspace, hthresh⟩
    exact ⟨fun hle => exec_start_of_bad_size hrun hval ⟨hsrc, hle⟩,
      fun hpos => exec_start_of_good hrun hval fun h => hpos.not_ge h.2⟩
  · intro hrun hsrc
    have hval := (missesValue_eq_false_iff s.cfg).2 fun h => absurd h hsrc
    exact exec_start_of_good hrun hval fun h => hsrc h.1

/-! ### SAMPLE, SYM and BIT (R186 to R188) -/

/-- An input command in an open run of its source is its operation. -/
theorem feed_of_open {src : Source} {s : State} (h : s.ctl.run = .run ∧ s.cfg.src = src) (f : State → State) :
    feed src f s = f s := if_pos h

/-- Anywhere else it is refused. -/
theorem feed_of_not_open {src : Source} {s : State} (h : ¬(s.ctl.run = .run ∧ s.cfg.src = src)) (f : State → State) :
    feed src f s = refuse s := if_neg h

/-- Everything `SYNC.STEP` can do beyond its own registers: nothing, or the emission of one BaudotBit. -/
theorem syncStep_cases (b : Bit) (s : State) :
    (∃ y, syncStep b s = { s with sync := y }) ∨ ∃ b' y, syncStep b s = emitBit b' { s with sync := y } := by
  cases hph : s.sync.ph with
  | seekMark =>
    rw [syncStep_of_seekMark hph, syncSeekMark]
    split
    · exact .inl ⟨_, rfl⟩
    · exact .inl ⟨s.sync, rfl⟩
  | seekSpace =>
    rw [syncStep_of_seekSpace hph, syncSeekSpace]
    split
    · exact .inl ⟨s.sync, rfl⟩
    · exact .inl ⟨_, rfl⟩
  | extract =>
    rw [syncStep_of_extract hph, syncExtract]
    split
    · exact .inr ⟨_, _, rfl⟩
    · exact .inl ⟨_, rfl⟩

/-- From `s` to `t` at most one Symbol, one BaudotBit and one character result. -/
def AtMostOneResult (s t : State) : Prop :=
  t.str.tapSym.length ≤ s.str.tapSym.length + 1 ∧ t.str.tapBit.length ≤ s.str.tapBit.length + 1
    ∧ t.str.out.length ≤ s.str.out.length + 1

theorem AtMostOneResult.of_str_eq {s t : State} (h : t.str = s.str) : AtMostOneResult s t := by
  simp [AtMostOneResult, h]

/-- One BaudotBit completes at most one character (R136). -/
theorem emitBit_lengths_le (b : Bit) (s : State) :
    (emitBit b s).str.tapBit.length ≤ s.str.tapBit.length + 1
      ∧ (emitBit b s).str.out.length ≤ s.str.out.length + 1 := by
  rw [emitBit, decPush]
  split <;> simp [decEmit]

/-- `emit_sym` appends its Symbol and no other (R9). -/
theorem emitSym_tapSym (b : Bit) (s : State) : (emitSym b s).str.tapSym = s.str.tapSym ++ [b] := by
  rw [emitSym_eq, syncStep_tapSym]
  rfl

/-- One Symbol completes at most one window (R117). -/
theorem AtMostOneResult.emitSym (b : Bit) (s : State) : AtMostOneResult s (emitSym b s) := by
  refine ⟨by simp [emitSym_tapSym], ?_⟩
  rw [emitSym_eq]
  obtain ⟨y, h⟩ | ⟨b', y, h⟩ := syncStep_cases b (countSymbol b s) <;> rw [h]
  · exact ⟨Nat.le_succ _, Nat.le_succ _⟩
  · exact emitBit_lengths_le b' _

/-- One sample completes at most one frame (R85). -/
theorem AtMostOneResult.gstep (x : NumQ) (s : State) : AtMostOneResult s (gstep x s) := by
  obtain ⟨_, hg⟩ | ⟨_, hg⟩ := gstep_cases x s <;> rw [hg]
  · exact AtMostOneResult.emitSym _ { takeSample x s with tone := _ }
  · exact .of_str_eq rfl

/-- Settles O21: `SAMPLE` is `GSTEP` in an open sample run; one `GSTEP`, or a refusal, gives at most one result of each
kind. -/
theorem sampleFeedsBothChannels : Obligations.SampleFeedsBothChannels := by
  refine ⟨fun reg d => by simp [decode_append, cmdInstr], fun s d => ⟨fun hopen => ?_, fun hopen => ?_, fun t ht => ?_⟩⟩
  · rw [exec_sample_of_running d hopen.1 hopen.2, gstep_eq_afterSample]
    rfl
  · exact congrArg Host.Outcome.next (feed_of_not_open hopen _)
  · obtain rfl : feed .samples (gstep (q16 d)) s = t := by cases ht; rfl
    obtain ⟨_, hf⟩ | ⟨_, hf⟩ := feed_cases .samples (gstep (q16 d)) s <;> rw [hf]
    · exact AtMostOneResult.gstep _ s
    · exact AtMostOneResult.of_str_eq rfl

/-- Settles O22: `SYM` is `emit_sym` in an open symbol run. -/
theorem symFeedsTheSynchronizer : Obligations.SymFeedsTheSynchronizer := by
  refine ⟨fun reg d => by simp [decode_append, cmdInstr, dataBit], fun s b => ⟨fun hopen => ?_, fun hopen => ?_⟩⟩
  · rw [← emitSym_eq_afterSym, ← feed_of_open hopen (emitSym b)]
    rfl
  · exact congrArg Host.Outcome.next (feed_of_not_open hopen _)

/-! ### END (R189) -/

theorem exec_endRun_of_not_running {s : State} (hrun : s.ctl.run ≠ .run) : exec .endRun s = .next (refuse s) := by
  obtain ⟨_, h⟩ | ⟨h, _⟩ | ⟨h, _⟩ | ⟨h, _⟩ := execEndRun_cases s
  · exact h
  all_goals exact absurd h hrun

/-- Step 1: a sample run without a sample. -/
theorem exec_endRun_of_unseen {s : State} (hrun : s.ctl.run = .run) (hunseen : s.cfg.src = .samples ∧ s.tone.seen = b0) :
    exec .endRun s = .next (raise .invalidFrameSize s) := by
  obtain ⟨h, _⟩ | ⟨_, _, h⟩ | ⟨_, h, _⟩ | ⟨_, h, _⟩ := execEndRun_cases s
  · exact absurd hrun h
  · exact h
  all_goals exact absurd hunseen h

/-- Step 3: the synchronizer, consulted after the short frame is closed, has found nothing. -/
theorem exec_endRun_of_unsynced {s : State} (hrun : s.ctl.run = .run)
    (hseen : ¬(s.cfg.src = .samples ∧ s.tone.seen = b0)) (hsrc : s.cfg.src ≠ .bits)
    (hph : (closeShortFrame s).sync.ph ≠ .extract) :
    exec .endRun s = .next (raise .syncNotFound (closeShortFrame s)) := by
  obtain ⟨h, _⟩ | ⟨_, h, _⟩ | ⟨_, _, _, _, h⟩ | ⟨_, _, h, _⟩ := execEndRun_cases s
  · exact absurd hrun h
  · exact absurd h hseen
  · exact h
  · exact absurd h (not_or.2 ⟨hsrc, hph⟩)

/-- Steps 4 and 5: the run is done. -/
theorem exec_endRun_of_synced {s : State} (hrun : s.ctl.run = .run)
    (hseen : ¬(s.cfg.src = .samples ∧ s.tone.seen = b0))
    (hok : s.cfg.src = .bits ∨ (closeShortFrame s).sync.ph = .extract) :
    exec .endRun s = .next (setRun .done (decFlush (closeShortFrame s))) := by
  obtain ⟨h, _⟩ | ⟨_, h, _⟩ | ⟨_, _, hsrc, hph, _⟩ | ⟨_, _, _, h⟩ := execEndRun_cases s
  · exact absurd hrun h
  · exact absurd h hseen
  · exact absurd hok (not_or.2 ⟨hsrc, hph⟩)
  · exact h

/-- Only a sample run has a short frame to close. -/
theorem closeShortFrame_of_not_samples {s : State} (hsrc : s.cfg.src ≠ .samples) : closeShortFrame s = s :=
  if_neg fun h => hsrc h.1

/-- Step 2 in closed form. -/
theorem closeShortFrame_of_samples {s : State} (hsrc : s.cfg.src = .samples) :
    closeShortFrame s = if 0 < s.tone.n then afterFrame s else s := by
  rw [closeShortFrame, fclose_eq_afterFrame]
  simp only [hsrc, true_and]

/-- Steps 4 and 5 in closed form. -/
theorem setRun_done_decFlush (s : State) : setRun .done (decFlush s) = afterDone s := by
  rw [afterDone]
  obtain ⟨hk, h⟩ | ⟨hk, h⟩ := decFlush_cases s <;> rw [h]
  · rw [if_pos hk]
    rfl
  · rw [if_neg (by omega)]
    rfl

/-- `END` of a bit run flushes the decoder, with no check (R188, R189 step 3). -/
theorem exec_endRun_of_bits {s : State} (hrun : s.ctl.run = .run) (hsrc : s.cfg.src = .bits) :
    exec .endRun s = .next (afterDone s) := by
  rw [exec_endRun_of_synced hrun (by simp [hsrc]) (.inl hsrc), closeShortFrame_of_not_samples (by simp [hsrc]),
    setRun_done_decFlush]

/-- Settles O23: `BIT` is `emit_bit` in an open bit run, which does not touch the synchronizer. -/
theorem bitFeedsTheDecoder : Obligations.BitFeedsTheDecoder := by
  refine ⟨fun reg d => by simp [decode_append, cmdInstr, dataBit],
    fun s b => ⟨fun hopen => ?_, fun hopen => ?_, ?_, fun hopen => exec_endRun_of_bits hopen.1 hopen.2⟩⟩
  · rw [← emitBit_eq_afterBit, ← feed_of_open hopen (emitBit b)]
    rfl
  · exact congrArg Host.Outcome.next (feed_of_not_open hopen _)
  · obtain ⟨_, _, _, hsync, _⟩ := emitBit_frame b s
    rw [← emitBit_eq_afterBit, hsync]

/-- Settles O24: the outcome of `END` by `run`, the source, whether a sample was seen, and the phase once the short frame
is closed. -/
theorem endFollowsItsNumberedSteps : Obligations.EndFollowsItsNumberedSteps := by
  refine ⟨fun reg d => by simp [decode_append, cmdInstr], fun s => ⟨exec_endRun_of_not_running, ?_, ?_, ?_,
    exec_endRun_of_bits⟩⟩
  · exact fun hrun hsrc hunseen => exec_endRun_of_unseen hrun ⟨hsrc, hunseen⟩
  · rintro hrun hsrc hseen u rfl
    rw [← closeShortFrame_of_samples hsrc, ← setRun_done_decFlush]
    exact ⟨fun hph => exec_endRun_of_synced hrun (by simp [hseen]) (.inr hph),
      fun hph => exec_endRun_of_unsynced hrun (by simp [hseen]) (by simp [hsrc]) hph⟩
  · intro hrun hsrc
    have hclose := closeShortFrame_of_not_samples (s := s) (by simp [hsrc])
    constructor
    · intro hph
      rw [exec_endRun_of_synced hrun (by simp [hsrc]) (.inr (by rwa [hclose])), hclose, setRun_done_decFlush]
    · intro hph
      rw [exec_endRun_of_unsynced hrun (by simp [hsrc]) (by simp [hsrc]) (by rwa [hclose]), hclose]
      rfl

end Sys2Proof.Machine
end

section
/-!
PROOFS. The family of spec/45_host_commands.md, a whole run (R192). `NOP` and `RD` change `rdata`, which no command of a run
reads, so they can be left out. What stands behind the detector after a sample run is what the run's Symbols, emitted one
after another, make of it, so the batch forms of the synchronizer and of the decoder apply to it.
-/

namespace Sys2Proof.Machine

/-! ### The detector's side and the pipeline behind it -/

/-- The pipeline behind the detector as in `s`; the configuration, the control registers, the detector and the model's own
group as in `f`. -/
def withFront (f s : State) : State := { s with cfg := f.cfg, ctl := f.ctl, tone := f.tone, env := f.env }

section Front

variable (f s : State) (b : Bit)

/-- The decoder goes by the pipeline alone. -/
theorem decPush_withFront : decPush b (withFront f s) = withFront f (decPush b s) := by
  rw [decPush, decPush, apply_ite (withFront f)]
  rfl

theorem decFlush_withFront : decFlush (withFront f s) = withFront f (decFlush s) := by
  rw [decFlush, decFlush, apply_ite (withFront f)]
  rfl

theorem emitBit_withFront : emitBit b (withFront f s) = withFront f (emitBit b s) := by
  rw [emitBit, emitBit, ← decPush_withFront]
  rfl

/-- So does the synchronizer. -/
theorem syncStep_withFront : syncStep b (withFront f s) = withFront f (syncStep b s) := by
  cases hph : s.sync.ph with
  | seekMark =>
    rw [syncStep_of_seekMark hph, syncStep_of_seekMark (s := withFront f s) hph, syncSeekMark, syncSeekMark,
      apply_ite (withFront f)]
    rfl
  | seekSpace =>
    rw [syncStep_of_seekSpace hph, syncStep_of_seekSpace (s := withFront f s) hph, syncSeekSpace, syncSeekSpace,
      apply_ite (withFront f)]
    rfl
  | extract =>
    rw [syncStep_of_extract hph, syncStep_of_extract (s := withFront f s) hph, syncExtract, syncExtract,
      apply_ite (withFront f), ← emitBit_withFront]
    rfl

/-- And so does the emission of a Symbol (R9). -/
theorem emitSym_withFront : emitSym b (withFront f s) = withFront f (emitSym b s) := by
  rw [emitSym_eq, emitSym_eq, ← syncStep_withFront]
  rfl

end Front

/-! ### No command of a run reads `rdata` -/

/-- An operation that goes by the pipeline alone and leaves the front as it is does not see `rdata`, which is in the
front. -/
theorem commutes_setRdata {op : State → State} (hop : ∀ f s, op (withFront f s) = withFront f (op s)) {s : State}
    (hcfg : (op s).cfg = s.cfg) (hctl : (op s).ctl = s.ctl) (htone : (op s).tone = s.tone) (henv : (op s).env = s.env)
    (v : Word32) : op (setRdata v s) = setRdata v (op s) := by
  have hfront : setRdata v s = withFront (setRdata v s) s := rfl
  rw [hfront, hop]
  simp only [withFront, setRdata, hcfg, hctl, htone, henv]

theorem emitSym_setRdata (b : Bit) (v : Word32) (s : State) : emitSym b (setRdata v s) = setRdata v (emitSym b s) := by
  obtain ⟨hcfg, hctl, htone, henv⟩ := emitSym_frame b s
  exact commutes_setRdata (fun f s => emitSym_withFront f s b) hcfg hctl htone henv v

theorem decFlush_setRdata (v : Word32) (s : State) : decFlush (setRdata v s) = setRdata v (decFlush s) := by
  obtain ⟨hcfg, hctl, htone, _, henv⟩ := decFlush_frame s
  exact commutes_setRdata decFlush_withFront hcfg hctl htone henv v

theorem fclose_setRdata (v : Word32) (s : State) : fclose (setRdata v s) = setRdata v (fclose s) :=
  emitSym_setRdata _ v { s with tone := closedTone (frameFlags s) s.tone }

theorem gstep_setRdata (x : NumQ) (v : Word32) (s : State) : gstep x (setRdata v s) = setRdata v (gstep x s) := by
  rw [gstep, gstep, apply_ite (setRdata v), ← fclose_setRdata]
  rfl

theorem closeShortFrame_setRdata (v : Word32) (s : State) :
    closeShortFrame (setRdata v s) = setRdata v (closeShortFrame s) := by
  rw [closeShortFrame, closeShortFrame, apply_ite (setRdata v), ← fclose_setRdata]
  rfl

/-- The outcome of the command does not depend on `rdata`, and hands it on as it was. -/
def IgnoresRdata (i : Instr) : Prop :=
  ∀ (v : Word32) (s t : State), exec i s = .next t → exec i (setRdata v s) = .next (setRdata v t)

theorem IgnoresRdata.start : IgnoresRdata .start := by
  intro v s t ht
  change execStart s = .next t at ht
  obtain ⟨hrun | hmiss, h⟩ | ⟨hrun, hval, hbad, h⟩ | ⟨hrun, hval, hgood, h⟩ := execStart_cases s <;>
    cases h.symm.trans ht
  · exact exec_start_of_running hrun
  · exact exec_start_of_missing hmiss
  · exact exec_start_of_bad_size hrun hval hbad
  · exact exec_start_of_good hrun hval hgood

theorem IgnoresRdata.sample (w : Word32) : IgnoresRdata (.sample w) := by
  rintro v s _ ⟨⟩
  obtain ⟨hopen, h⟩ | ⟨hopen, h⟩ := feed_cases .samples (gstep (q16 w)) s <;> rw [h]
  · rw [← gstep_setRdata]
    exact congrArg Host.Outcome.next (feed_of_open (s := setRdata v s) hopen _)
  · exact congrArg Host.Outcome.next (feed_of_not_open (s := setRdata v s) hopen _)

theorem IgnoresRdata.endRun : IgnoresRdata .endRun := by
  intro v s t ht
  have hclose := closeShortFrame_setRdata v s
  change execEndRun s = .next t at ht
  obtain ⟨hrun, h⟩ | ⟨hrun, hunseen, h⟩ | ⟨hrun, hseen, hsrc, hph, h⟩ | ⟨hrun, hseen, hok, h⟩ := execEndRun_cases s <;>
    cases h.symm.trans ht
  · exact exec_endRun_of_not_running hrun
  · exact exec_endRun_of_unseen hrun hunseen
  · rw [exec_endRun_of_unsynced (s := setRdata v s) hrun hseen hsrc (by rwa [hclose]), hclose]
    rfl
  · rw [exec_endRun_of_synced (s := setRdata v s) hrun hseen (by rwa [hclose]), hclose, decFlush_setRdata]
    rfl

/-- The commands of a sample run are of this kind. -/
theorem IgnoresRdata.of_mem_decodeRun {buf : List Word32} {i : Instr} (hi : i ∈ Asm.decodeRun buf) :
    IgnoresRdata i := by
  obtain rfl | ⟨w, _, rfl⟩ | rfl : i = .start ∨ (∃ w ∈ buf, Instr.sample w = i) ∨ i = .endRun := by
    simpa [Asm.decodeRun, Asm.samples] using hi
  · exact .start
  · exact .sample w
  · exact .endRun

/-- `NOP` and `RD` mixed into such commands leave the outcome as it is, but for `rdata` (R192). -/
theorem execAll_of_filter {cmds : List Instr} (hcmds : ∀ i ∈ cmds.filter (fun i => !isObserver i), IgnoresRdata i)
    {s t : State} (ht : execAll (cmds.filter fun i => !isObserver i) s = .next t) (v : Word32) :
    ∃ v', execAll cmds (setRdata v s) = .next (setRdata v' t) := by
  induction cmds generalizing s v with
  | nil =>
    cases ht
    exact ⟨v, rfl⟩
  | cons i is ih =>
    by_cases hi : isObserver i = true
    · obtain ⟨v', hv'⟩ := exec_of_isObserver hi (setRdata v s)
      rw [List.filter_cons_of_neg (by simp [hi])] at hcmds ht
      rw [execAll, hv']
      exact ih hcmds ht v'
    · rw [List.filter_cons_of_pos (by simp [hi])] at hcmds ht
      obtain ⟨hi, his⟩ := List.forall_mem_cons.1 hcmds
      obtain ⟨u, hu⟩ := exec_next i s
      rw [execAll, hu] at ht
      rw [execAll, hi v s u hu]
      exact ih his ht v

/-! ### What the Symbols of a run leave in the pipeline -/

/-- Every result of the run is counted (R27), and the decoder has taken the BaudotBits of `tap_bit`. -/
structure Tapped (s : State) : Prop where
  nsym : s.cnt.nsym = s.str.tapSym.length
  nbit : s.cnt.nbit = s.str.tapBit.length
  nchar : s.cnt.nchar = s.str.out.length
  dec : DecRun s.str.tapBit s

/-- `emit_bit` counts its BaudotBit (R9), and the character it completes, if it completes one. -/
theorem emitBit_counts (b : Bit) (s : State) :
    (emitBit b s).cnt.nsym = s.cnt.nsym ∧ (emitBit b s).cnt.nbit = s.cnt.nbit + 1
      ∧ (emitBit b s).str.tapBit = s.str.tapBit ++ [b]
      ∧ (emitBit b s).cnt.nchar + s.str.out.length = s.cnt.nchar + (emitBit b s).str.out.length := by
  rw [emitBit, decPush]
  split <;> simp [decEmit]
  omega

theorem Tapped.emitBit {s : State} (h : Tapped s) (b : Bit) : Tapped (emitBit b s) := by
  obtain ⟨hnsym, hnbit, hbits, hnchar⟩ := emitBit_counts b s
  have hcount := h.nchar
  exact ⟨by rw [hnsym, emitBit_tapSym, h.nsym], by rw [hnbit, hbits, h.nbit]; simp, by omega,
    hbits ▸ h.dec.emitBit b⟩

theorem Tapped.emitSym {s : State} (h : Tapped s) (b : Bit) : Tapped (emitSym b s) := by
  have hcount (y : Sync) : Tapped { countSymbol b s with sync := y } :=
    ⟨by simp [countSymbol, h.nsym], h.nbit, h.nchar, ⟨h.dec.k, h.dec.key, h.dec.out⟩⟩
  rw [emitSym_eq]
  obtain ⟨y, hstep⟩ | ⟨b', y, hstep⟩ := syncStep_cases b (countSymbol b s) <;> rw [hstep]
  · exact hcount y
  · exact (hcount y).emitBit b'

theorem Tapped.emitSyms {s : State} (h : Tapped s) (l : List Bit) : Tapped (emitSyms l s) := by
  induction l generalizing s with
  | nil => exact h
  | cons b l ih => exact ih (h.emitSym b)

theorem emitSyms_tapSym (l : List Bit) (s : State) : (emitSyms l s).str.tapSym = s.str.tapSym ++ l := by
  induction l generalizing s with
  | nil => simp
  | cons b l ih => rw [emitSyms_cons, ih, emitSym_tapSym, List.append_assoc, List.singleton_append]

/-- The counters are told apart by their values. -/
theorem Counters.ext {c c' : Counters} (hnsym : c.nsym = c'.nsym) (hnbit : c.nbit = c'.nbit)
    (hnchar : c.nchar = c'.nchar) : c = c' := by
  obtain ⟨_, _, _⟩ := c
  subst hnsym hnbit hnchar
  rfl

/-- The state an accepted `START` opens a run in (R33, R185). -/
def opened (s : State) : State := setRun .run (clearRun s)

theorem Tapped.opened (s : State) : Tapped (opened s) := ⟨rfl, rfl, rfl, DecRun.fresh rfl rfl⟩

theorem SyncRun.opened (s : State) : SyncRun .reset 0 [] (opened s) := ⟨rfl, rfl, rfl⟩

/-- `DEC.FLUSH` counts the character it emits. -/
theorem decFlush_counts (s : State) :
    (decFlush s).cnt.nsym = s.cnt.nsym ∧ (decFlush s).cnt.nbit = s.cnt.nbit
      ∧ (decFlush s).cnt.nchar + s.str.out.length = s.cnt.nchar + (decFlush s).str.out.length := by
  obtain ⟨_, h⟩ | ⟨_, h⟩ := decFlush_cases s <;> rw [h]
  · exact ⟨rfl, rfl, rfl⟩
  · refine ⟨rfl, rfl, ?_⟩
    simp [decEmit]
    omega

section Emitted

variable {s : State} {sy : List Bit}

/-- Symbols without an anchor are counted and leave no result behind them (R201). -/
theorem emitSyms_opened_of_anchorOf_eq_none (hsy : anchorOf sy = none) :
    (emitSyms sy (opened s)).sync.ph ≠ .extract ∧ (emitSyms sy (opened s)).str.out = []
      ∧ (emitSyms sy (opened s)).cnt = ⟨sy.length, 0, 0⟩ := by
  obtain ⟨hnsym, hnbit, hnchar, hdec⟩ := (Tapped.opened s).emitSyms sy
  obtain ⟨hph, hbits⟩ := (SyncRun.opened s).of_anchorOf_eq_none hsy
  have hout : (emitSyms sy (opened s)).str.out = [] := by simp [hdec.out, hbits]
  refine ⟨hph, hout, ?_⟩
  rw [emitSyms_tapSym] at hnsym
  rw [hbits] at hnbit
  rw [hout] at hnchar
  exact Counters.ext hnsym hnbit hnchar

/-- Symbols with an anchor, and the decoder flushed, leave the batch text and its counts. -/
theorem emitSyms_opened_of_bitsOf_eq_some {bits : List Bit} (hsy : bitsOf sy = some bits) :
    (emitSyms sy (opened s)).sync.ph = .extract ∧ (decFlush (emitSyms sy (opened s))).str.out = textOf bits
      ∧ (decFlush (emitSyms sy (opened s))).cnt = ⟨sy.length, bits.length, (textOf bits).length⟩ := by
  obtain ⟨hnsym, hnbit, hnchar, hdec⟩ := (Tapped.opened s).emitSyms sy
  obtain ⟨a, ha, _⟩ := Option.map_eq_some_iff.1 hsy
  obtain ⟨⟨hph, _⟩, hbits⟩ := (SyncRun.opened s).of_anchorOf_eq_some ha
  obtain rfl : bits = (emitSyms sy (opened s)).str.tapBit := by simpa [hsy] using hbits
  obtain ⟨hnsym', hnbit', hnchar'⟩ := decFlush_counts (emitSyms sy (opened s))
  have hout := hdec.decFlush_out
  refine ⟨hph, hout, Counters.ext (hnsym'.trans ?_) (hnbit'.trans hnbit) ?_⟩
  · rw [hnsym, emitSyms_tapSym]
    rfl
  · rw [← hout]
    show (decFlush _).cnt.nchar = (decFlush _).str.out.length
    omega

end Emitted

/-! ### The pipeline of a sample run -/

/-- Behind the detector, `s` is what the Symbols of its `tap_sym`, emitted one after another in `s0`, make of `s0`. -/
def FedFrom (s0 s : State) : Prop := ∃ f, s = withFront f (emitSyms s.str.tapSym s0)

section Fed

variable {s0 s : State}

theorem FedFrom.opened (s : State) : FedFrom (opened s) (opened s) := ⟨Machine.opened s, rfl⟩

/-- A change of the front alone leaves the pipeline as it is. -/
theorem FedFrom.withFront (h : FedFrom s0 s) (f : State) : FedFrom s0 (withFront f s) := by
  obtain ⟨g, hg⟩ := h
  exact ⟨f, (congrArg (Machine.withFront f) hg).trans rfl⟩

theorem FedFrom.emitSym (h : FedFrom s0 s) (b : Bit) : FedFrom s0 (emitSym b s) := by
  obtain ⟨f, hf⟩ := h
  refine ⟨f, ?_⟩
  rw [emitSym_tapSym, emitSyms_append, emitSyms_cons, emitSyms_nil, ← emitSym_withFront, ← hf]

theorem FedFrom.fclose (h : FedFrom s0 s) : FedFrom s0 (fclose s) :=
  (h.withFront { s with tone := closedTone (frameFlags s) s.tone }).emitSym _

theorem FedFrom.gstep (h : FedFrom s0 s) (x : NumQ) : FedFrom s0 (gstep x s) := by
  have htaken : FedFrom s0 (takeSample x s) := h.withFront (takeSample x s)
  obtain ⟨_, hg⟩ | ⟨_, hg⟩ := gstep_cases x s <;> rw [hg]
  · exact htaken.fclose
  · exact htaken

theorem FedFrom.closeShortFrame (h : FedFrom s0 s) : FedFrom s0 (closeShortFrame s) := by
  rw [Machine.closeShortFrame]
  split
  · exact h.fclose
  · exact h

end Fed

/-- The samples `xs` taken one after another (R85). -/
def takeSamples (xs : List NumQ) (s : State) : State := xs.foldl (fun t x => gstep x t) s

theorem FedFrom.takeSamples {s0 s : State} (h : FedFrom s0 s) (xs : List NumQ) : FedFrom s0 (takeSamples xs s) := by
  induction xs generalizing s with
  | nil => exact h
  | cons x xs ih => exact ih (h.gstep x)

/-- Taking samples ends no run and raises no error. -/
theorem takeSamples_ctl (xs : List NumQ) (s : State) : (takeSamples xs s).ctl = s.ctl := by
  induction xs generalizing s with
  | nil => rfl
  | cons x xs ih =>
    obtain ⟨_, hctl, _⟩ := gstep_frame x s
    exact (ih (gstep x s)).trans hctl

theorem closeShortFrame_ctl (s : State) : (closeShortFrame s).ctl = s.ctl := by
  obtain ⟨_, hctl, _⟩ := fclose_frame s
  rw [closeShortFrame]
  split
  · exact hctl
  · rfl

/-- `SAMPLES buf` (R73) in an open sample run takes the samples of `buf` (R186). -/
theorem execAll_samples (buf : List Word32) {s : State} (hrun : s.ctl.run = .run) (hsrc : s.cfg.src = .samples) :
    execAll (Asm.samples buf) s = .next (takeSamples (buf.map q16) s) := by
  induction buf generalizing s with
  | nil => rfl
  | cons w ws ih =>
    obtain ⟨hcfg, hctl, _⟩ := gstep_frame (q16 w) s
    rw [Asm.samples, List.map_cons, execAll, exec_sample_of_running w hrun hsrc]
    exact ih (by rw [hctl, hrun]) (by rw [hcfg, hsrc])

/-! ### The run in each of its outcomes (R192) -/

section Outcome

variable {s : State} {buf : List Word32}

/-- An accepted `START` of a sample run without a positive frame size is in error at once (R185 step 5). -/
theorem exec_start_of_accepted_of_bad_size (hacc : accepted .start s = true) (hsrc : s.cfg.src = .samples)
    (hbad : frameSize s ≤ 0) : exec .start s = .next (raise .invalidFrameSize (clearRun s)) := by
  rw [accepted_start, Bool.and_eq_true, bne_iff_ne, Bool.not_eq_true'] at hacc
  obtain ⟨hrun, hval⟩ := hacc
  exact exec_start_of_bad_size hrun hval ⟨hsrc, hbad⟩

/-- Outside `RUN` the samples and the `END` are all refused (R193). -/
theorem exec_of_not_running (hrun : s.ctl.run ≠ .run) {i : Instr} (hi : i ∈ Asm.samples buf ++ [.endRun]) :
    exec i s = .next (refuse s) := by
  obtain ⟨w, _, rfl⟩ | rfl : (∃ w ∈ buf, Instr.sample w = i) ∨ i = .endRun := by simpa [Asm.samples] using hi
  · exact congrArg Host.Outcome.next (feed_of_not_open (fun h => hrun h.1) _)
  · exact exec_endRun_of_not_running hrun

/-- A second refusal changes nothing more (R18). -/
theorem execAll_of_not_running (hrun : s.ctl.run ≠ .run) :
    execAll (Asm.samples buf ++ [.endRun]) s = .next (refuse s) := by
  induction buf generalizing s with
  | nil =>
    rw [Asm.samples, List.map_nil, List.nil_append, execAll, exec_endRun_of_not_running hrun]
    rfl
  | cons w ws ih =>
    have hw : Instr.sample w ∈ Asm.samples (w :: ws) ++ [.endRun] := List.mem_cons_self
    rw [Asm.samples, List.map_cons, List.cons_append, execAll, exec_of_not_running hrun hw]
    exact ih hrun

/-- After an accepted `START` a run goes on with its samples and its `END`. -/
theorem execAll_decodeRun {t0 : State} (hstart : exec .start s = .next t0) :
    execAll (Asm.decodeRun buf) s = execAll (Asm.samples buf ++ [.endRun]) t0 := by
  rw [Asm.decodeRun, List.cons_append, execAll, hstart]

/-- Taking the samples carries the sample run on (R88). -/
theorem sampleRun_takeSamples (hsrc : s.cfg.src = .samples) (hsize : 0 < frameSize s) :
    SampleRun (decodeCfg s) (buf.map q16) (takeSamples (buf.map q16) (opened s)) := by
  obtain ⟨t, ht, hrun⟩ := (SampleRun.opened hsrc).samples hsize buf
  have htaken : execAll (Asm.samples buf) (opened s) = .next (takeSamples (buf.map q16) (opened s)) :=
    execAll_samples buf rfl hsrc
  obtain rfl : takeSamples (buf.map q16) (opened s) = t := Host.Outcome.next.inj (htaken.symm.trans ht)
  exact hrun

/-- Where `END` consults the synchronizer, the pipeline is that of the batch Symbols. -/
theorem closeShortFrame_takeSamples (hsrc : s.cfg.src = .samples) (hsize : 0 < frameSize s) :
    ∃ f, closeShortFrame (takeSamples (buf.map q16) (opened s))
      = withFront f (emitSyms (symbolSeq (toneFlagsSeq (decodeCfg s) (buf.map q16))) (opened s)) := by
  obtain ⟨f, hf⟩ := ((FedFrom.opened s).takeSamples (buf.map q16)).closeShortFrame
  have hsym := (sampleRun_takeSamples (buf := buf) hsrc hsize).closeShortFrame_tapSym hsize
  exact ⟨f, hf.trans (congrArg (fun sy => withFront f (emitSyms sy (opened s))) hsym)⟩

/-- The Symbols of a buffer: one per frame (R81, R101). -/
theorem length_symbolSeq_toneFlagsSeq (c : DecodeCfg) (xs : List NumQ) :
    (symbolSeq (toneFlagsSeq c xs)).length = ceilDiv xs.length c.frameSize.toNat := by
  simp [symbolSeq, toneFlagsSeq, frames, groups]

/-- A sample run is opened, fed and ended. -/
theorem execAll_decodeRun_eq_endRun (hsrc : s.cfg.src = .samples) (hstart : exec .start s = .next (opened s)) :
    execAll (Asm.decodeRun buf) s = exec .endRun (takeSamples (buf.map q16) (opened s)) := by
  rw [execAll_decodeRun hstart, execAll_append _ (execAll_samples buf (s := opened s) rfl hsrc), execAll]
  obtain ⟨t, ht⟩ := exec_next .endRun (takeSamples (buf.map q16) (opened s))
  rw [ht]
  rfl

/-- The batch Symbols have no anchor: `END` raises `SyncNotFoundError` (R201), and the Symbols are all that the run
leaves. -/
theorem execAll_decodeRun_of_no_bits (hsrc : s.cfg.src = .samples) (hsize : 0 < frameSize s)
    (hstart : exec .start s = .next (opened s)) (hbuf : buf ≠ [])
    (hbits : bitsOf (symbolSeq (toneFlagsSeq (decodeCfg s) (buf.map q16))) = none) :
    ∃ t, execAll (Asm.decodeRun buf) s = .next t ∧ t.ctl.run = .err ∧ t.ctl.err = .syncNotFound ∧ t.str.out = []
      ∧ t.cnt = ⟨ceilDiv buf.length (frameSize s).toNat, 0, 0⟩ := by
  have hrun := sampleRun_takeSamples (buf := buf) hsrc hsize
  obtain ⟨f, hclose⟩ := closeShortFrame_takeSamples (buf := buf) hsrc hsize
  obtain ⟨hph, hout, hcnt⟩ := emitSyms_opened_of_anchorOf_eq_none (s := s) (Option.map_eq_none_iff.1 hbits)
  rw [length_symbolSeq_toneFlagsSeq, List.length_map] at hcnt
  have hend := exec_endRun_of_unsynced hrun.running (by simp [hrun.seen (by simpa using hbuf)]) (by simp [hrun.source])
    (by rw [hclose]; exact hph)
  refine ⟨_, (execAll_decodeRun_eq_endRun hsrc hstart).trans hend, rfl, rfl, ?_, ?_⟩
  · rw [hclose]
    exact hout
  · rw [hclose]
    exact hcnt

/-- The batch Symbols have bits: `END` flushes the decoder, and the run is done with their text. -/
theorem execAll_decodeRun_of_bits (hsrc : s.cfg.src = .samples) (hsize : 0 < frameSize s)
    (hstart : exec .start s = .next (opened s)) (hbuf : buf ≠ []) {bits : List Bit}
    (hbits : bitsOf (symbolSeq (toneFlagsSeq (decodeCfg s) (buf.map q16))) = some bits) :
    ∃ t, execAll (Asm.decodeRun buf) s = .next t ∧ t.ctl.run = .done ∧ t.ctl.err = .none ∧ t.str.out = textOf bits
      ∧ t.cnt = ⟨(symbolSeq (toneFlagsSeq (decodeCfg s) (buf.map q16))).length, bits.length, (textOf bits).length⟩ := by
  have hrun := sampleRun_takeSamples (buf := buf) hsrc hsize
  obtain ⟨f, hclose⟩ := closeShortFrame_takeSamples (buf := buf) hsrc hsize
  obtain ⟨hph, hout, hcnt⟩ := emitSyms_opened_of_bitsOf_eq_some (s := s) hbits
  have hend := exec_endRun_of_synced hrun.running (by simp [hrun.seen (by simpa using hbuf)])
    (.inr (by rw [hclose]; exact hph))
  refine ⟨_, (execAll_decodeRun_eq_endRun hsrc hstart).trans hend, rfl, ?_, ?_, ?_⟩
  · obtain ⟨_, hctl, _⟩ := decFlush_frame (closeShortFrame (takeSamples (buf.map q16) (opened s)))
    rw [setRun_err, hctl, closeShortFrame_ctl, takeSamples_ctl]
    rfl
  · rw [hclose, setRun_str, decFlush_withFront]
    exact hout
  · rw [hclose, setRun_cnt, decFlush_withFront]
    exact hcnt

end Outcome

/-- Settles O47: the observers are left out, and the run ends as `Decode` does: with `InvalidFrameSize` at `START` or, when
there is no sample, at `END`; else as the bits of its Symbols say. -/
theorem commandPortComputesDecode : Obligations.CommandPortComputesDecode := by
  rintro s buf cmds c hsrc hacc hc hcmds
  obtain rfl : c = decodeCfg s := hc
  have hobserved {t : State} (ht : execAll (Asm.decodeRun buf) s = .next t) :
      ∃ v, execAll cmds s = .next (setRdata v t) :=
    execAll_of_filter (hcmds ▸ fun _ => IgnoresRdata.of_mem_decodeRun) (hcmds ▸ ht) s.ctl.rdata
  by_cases hbad : frameSize s ≤ 0
  · have hdecode : decodeBuffer (decodeCfg s) (buf.map q16) = .error .invalidFrameSize := if_pos (.inl hbad)
    have hstart := exec_start_of_accepted_of_bad_size hacc hsrc hbad
    obtain ⟨v, hv⟩ := hobserved ((execAll_decodeRun hstart).trans (execAll_of_not_running (by simp)))
    rw [hdecode]
    refine ⟨_, _, hstart, hv, fun _ => ⟨rfl, rfl, rfl, rfl, rfl, rfl, fun _ => ⟨rfl, rfl, ?_⟩, fun hpos => ?_⟩,
      nofun, nofun, nofun⟩
    · exact fun i hi => exec_of_not_running (by simp) hi
    · omega
  have hsize : 0 < frameSize s := by omega
  have hstart : exec .start s = .next (opened s) := exec_start_of_accepted hacc hsize
  by_cases hbuf : buf = []
  · have hdecode : decodeBuffer (decodeCfg s) (buf.map q16) = .error .invalidFrameSize := if_pos (.inr (by simp [hbuf]))
    have hend : execAll (Asm.decodeRun buf) s = .next (raise .invalidFrameSize (opened s)) := by
      rw [execAll_decodeRun_eq_endRun hsrc hstart, hbuf]
      exact exec_endRun_of_unseen rfl ⟨hsrc, rfl⟩
    obtain ⟨v, hv⟩ := hobserved hend
    rw [hdecode]
    exact ⟨_, _, hstart, hv, fun _ => ⟨rfl, rfl, rfl, rfl, rfl, rfl, fun hle => absurd hle hbad, fun _ => ⟨hbuf, rfl⟩⟩,
      nofun, nofun, nofun⟩
  have hvalid : ¬((decodeCfg s).frameSize ≤ 0 ∨ buf.map q16 = []) := not_or.2 ⟨hbad, by simpa using hbuf⟩
  rw [decodeBuffer, if_neg hvalid]
  cases hbits : bitsOf (symbolSeq (toneFlagsSeq (decodeCfg s) (buf.map q16))) with
  | none =>
    obtain ⟨t, ht, hrun, herr, hout, hcnt⟩ := execAll_decodeRun_of_no_bits hsrc hsize hstart hbuf hbits
    obtain ⟨v, hv⟩ := hobserved ht
    refine ⟨_, _, hstart, hv, nofun, fun _ => ?_, nofun, nofun⟩
    simp [hrun, herr, hout, hcnt]
  | some bits =>
    obtain ⟨t, ht, hrun, herr, hout, hcnt⟩ := execAll_decodeRun_of_bits hsrc hsize hstart hbuf hbits
    obtain ⟨v, hv⟩ := hobserved ht
    refine ⟨_, _, hstart, hv, nofun, nofun, ?_, nofun⟩
    rintro _ ⟨⟩
    simp [hrun, herr, hout, hcnt]

end Sys2Proof.Machine
end

section
/-!
PROOFS. The family of spec/60_exceptions.md: what a refused command does (R210), and what a failed run has delivered
(R206). Both go by one account of what a command can do. For R206, an open run that can still fail has emitted no
BaudotBit and no character: a sample run without a sample has had no input, and a run of Symbols emits BaudotBits only
when it is synchronised, which it then stays.
-/

namespace Sys2Proof.Machine

open Decode

/-! ### What a command can do -/

/-- Everything a command can make of `s`: it is refused, or it is accepted and has one of the effects of its rule. -/
inductive CommandEffect (s : State) : Instr → State → Prop where
  /-- R210. -/
  | refused {i : Instr} (hacc : accepted i s = false) : CommandEffect s i (refuse s)
  /-- R181. -/
  | reset : CommandEffect s .rst (resetBlock s)
  /-- R184, and `NOP` (R182), which writes the value `rdata` has; the value read is that of `RdWordFollowsItsRule`. -/
  | observed {i : Instr} (hi : isObserver i = true) (hacc : accepted i s = true) (v : Word32) :
    CommandEffect s i (setRdata v s)
  /-- R183; the configuration written is that of `CfgWritesOrIsRefused`. -/
  | configured {i : Instr} (hi : isCfgWrite i = true) (hacc : accepted i s = true) (hrun : s.ctl.run ≠ .run) (c : Cfg) :
    CommandEffect s i (setCfg c s)
  /-- R185 step 5. -/
  | failedStart (hacc : accepted .start s = true) (hbad : s.cfg.src = .samples ∧ frameSize s ≤ 0) :
    CommandEffect s .start (raise .invalidFrameSize (clearRun s))
  /-- R185 step 6. -/
  | opened (hacc : accepted .start s = true) (hgood : ¬(s.cfg.src = .samples ∧ frameSize s ≤ 0)) :
    CommandEffect s .start (opened s)
  /-- R186. -/
  | sample (w : Word32) (hrun : s.ctl.run = .run) (hsrc : s.cfg.src = .samples) :
    CommandEffect s (.sample w) (gstep (q16 w) s)
  /-- R187. -/
  | sym (b : Bit) (hrun : s.ctl.run = .run) (hsrc : s.cfg.src = .symbols) : CommandEffect s (.sym b) (emitSym b s)
  /-- R188. -/
  | bit (b : Bit) (hrun : s.ctl.run = .run) (hsrc : s.cfg.src = .bits) : CommandEffect s (.bit b) (emitBit b s)
  /-- R189 step 1. -/
  | unseen (hrun : s.ctl.run = .run) (hsrc : s.cfg.src = .samples) (hseen : s.tone.seen = b0) :
    CommandEffect s .endRun (raise .invalidFrameSize s)
  /-- R189 step 3. -/
  | unsynced (hrun : s.ctl.run = .run) (hseen : ¬(s.cfg.src = .samples ∧ s.tone.seen = b0)) (hsrc : s.cfg.src ≠ .bits)
    (hph : (closeShortFrame s).sync.ph ≠ .extract) :
    CommandEffect s .endRun (raise .syncNotFound (closeShortFrame s))
  /-- R189 step 5. -/
  | finished (hrun : s.ctl.run = .run) (hseen : ¬(s.cfg.src = .samples ∧ s.tone.seen = b0))
    (hok : s.cfg.src = .bits ∨ (closeShortFrame s).sync.ph = .extract) :
    CommandEffect s .endRun (setRun .done (decFlush (closeShortFrame s)))

section Effect

variable {s t : State} {i : Instr}

theorem accepted_endRun (s : State) : accepted .endRun s = (s.ctl.run == .run) := rfl

theorem accepted_sample (w : Word32) (s : State) :
    accepted (.sample w) s = (s.ctl.run == .run && s.cfg.src == .samples) := rfl

theorem accepted_sym (b : Bit) (s : State) : accepted (.sym b) s = (s.ctl.run == .run && s.cfg.src == .symbols) := rfl

theorem accepted_bit (b : Bit) (s : State) : accepted (.bit b) s = (s.ctl.run == .run && s.cfg.src == .bits) := rfl

theorem accepted_cfgMode (abs : Bit) (src : BitVec 2) (s : State) :
    accepted (.cfgMode abs src) s = ((sourceOf src).isSome && s.ctl.run != .run) := rfl

theorem CommandEffect.of_start (ht : exec .start s = .next t) : CommandEffect s .start t := by
  change execStart s = .next t at ht
  have hacc := accepted_start s
  obtain ⟨hbad, h⟩ | ⟨hrun, hval, hsize, h⟩ | ⟨hrun, hval, hsize, h⟩ := execStart_cases s <;> cases h.symm.trans ht
  · obtain hrun | hmiss := hbad
    · exact .refused (by simp [hacc, hrun])
    · exact .refused (by simp [hacc, hmiss])
  · exact .failedStart (by simp [hacc, hrun, hval]) hsize
  · exact .opened (by simp [hacc, hrun, hval]) hsize

theorem CommandEffect.of_endRun (ht : exec .endRun s = .next t) : CommandEffect s .endRun t := by
  change execEndRun s = .next t at ht
  obtain ⟨hrun, h⟩ | ⟨hrun, ⟨hsrc, hseen⟩, h⟩ | ⟨hrun, hseen, hsrc, hph, h⟩ | ⟨hrun, hseen, hok, h⟩ :=
    execEndRun_cases s <;> cases h.symm.trans ht
  · exact .refused (by simp [accepted_endRun, hrun])
  · exact .unseen hrun hsrc hseen
  · exact .unsynced hrun hseen hsrc hph
  · exact .finished hrun hseen hok

/-- An input command is accepted in an open run of its source. -/
theorem CommandEffect.of_feed {src : Source} {f : State → State}
    (hacc : accepted i s = (s.ctl.run == .run && s.cfg.src == src))
    (hf : s.ctl.run = .run → s.cfg.src = src → CommandEffect s i (f s)) : CommandEffect s i (feed src f s) := by
  obtain ⟨⟨hrun, hsrc⟩, h⟩ | ⟨hclosed, h⟩ := feed_cases src f s <;> rw [h]
  · exact hf hrun hsrc
  · exact .refused (by simpa [hacc] using hclosed)

/-- A write of the configuration is accepted outside `RUN`. -/
theorem CommandEffect.of_cfgWrite (hi : isCfgWrite i = true) (hacc : accepted i s = (s.ctl.run != .run))
    (f : Cfg → Cfg) : CommandEffect s i (cfgWrite f s) := by
  obtain ⟨hrun, h⟩ | ⟨hrun, h⟩ := cfgWrite_cases f s <;> rw [h]
  · exact .refused (by simp [hacc, hrun])
  · exact .configured hi (by simp [hacc, hrun]) hrun _

theorem CommandEffect.of_cfgMode {abs : Bit} {src : BitVec 2} (ht : exec (.cfgMode abs src) s = .next t) :
    CommandEffect s (.cfgMode abs src) t := by
  change execCfgMode abs src s = .next t at ht
  rw [execCfgMode] at ht
  split at ht <;> cases ht
  case h_1 hsrc => exact .refused (by simp [accepted_cfgMode, hsrc])
  case h_2 hsrc =>
    have hwrite : isCfgWrite (.cfgMode abs src) = true := Option.isSome_of_eq_some hsrc
    exact .of_cfgWrite hwrite (by simp [accepted_cfgMode, hsrc]) _

/-- Every command has one of the effects, by its row (R180). -/
theorem CommandEffect.of_exec (hi : i.isCommand = true) (ht : exec i s = .next t) : CommandEffect s i t := by
  cases i
  case start => exact .of_start ht
  case endRun => exact .of_endRun ht
  case cfgMode abs src => exact .of_cfgMode ht
  case rst => cases ht; exact .reset
  case sample w => cases ht; exact .of_feed rfl (.sample w)
  case sym b => cases ht; exact .of_feed rfl (.sym b)
  case bit b => cases ht; exact .of_feed rfl (.bit b)
  case cfgFrameSize | cfgCoeffMark | cfgCoeffSpace | cfgThresh => cases ht; exact .of_cfgWrite rfl rfl _
  case nop | rdFrameSize | rdCoeffMark | rdCoeffSpace | rdMode | rdThresh | rdReserved5 | rdReserved6 | rdReserved7
    | rdStatus | rdSymbolCount | rdBitCount | rdCharCount | rdSyncAnchor | rdReservedD | rdReservedE | rdReservedF =>
    cases ht; exact .observed rfl rfl _
  case cfgReserved5 | cfgReserved6 | cfgReserved7 | cfgStatus | cfgSymbolCount | cfgBitCount | cfgCharCount
    | cfgSyncAnchor | cfgReservedD | cfgReservedE | cfgReservedF | reservedOp8 | reservedOp9 | reservedOpA
    | reservedOpB | reservedOpC | reservedOpD | reservedOpE => cases ht; exact .refused rfl
  all_goals exact absurd hi Bool.false_ne_true

/-- Each effect but the refusal is that of an accepted command. -/
theorem CommandEffect.accepted_or_eq_refuse (h : CommandEffect s i t) : accepted i s = true ∨ t = refuse s := by
  cases h with
  | refused => exact .inr rfl
  | reset => exact .inl rfl
  | observed _ hacc | configured _ hacc | failedStart hacc | opened hacc => exact .inl hacc
  | sample w hrun hsrc => exact .inl (by simp [accepted_sample, hrun, hsrc])
  | sym b hrun hsrc => exact .inl (by simp [accepted_sym, hrun, hsrc])
  | bit b hrun hsrc => exact .inl (by simp [accepted_bit, hrun, hsrc])
  | unseen hrun | unsynced hrun | finished hrun => exact .inl (by simp [accepted_endRun, hrun])

end Effect

/-- Settles O12: the next state is that of an effect of the command, and only the refusal is left. -/
theorem refusedCommandsSetRejAndNothingElse : Obligations.RefusedCommandsSetRejAndNothingElse := by
  intro i s hi hacc
  obtain ⟨t, ht⟩ := exec_next i s
  obtain h | rfl := (CommandEffect.of_exec hi ht).accepted_or_eq_refuse
  · simp [hacc] at h
  · exact ht

/-! ### The inputs of the hardware -/

/-- Every command word is a command (R62). -/
theorem isCommand_cmdInstr (w : CmdWord) : (cmdInstr w).isCommand = true := by
  rw [cmdInstr]
  split
  case h_2 => rw [cfgInstr]; split <;> rfl
  case h_8 => rw [rdInstr]; split <;> rfl
  all_goals rfl

/-- A step with an input of the hardware runs a command; the reset input does what `RST` does (R181, R230). -/
theorem exists_command_of_hardware_step {s t : State} {x : Input} (hx : isHardwareInput x = true)
    (ht : step (offer x s) = .next t) :
    ∃ i : Instr, i.isCommand = true ∧ exec i (takeInput [] (offer x s)) = .next t := by
  cases x with
  | resetPin => exact ⟨.rst, rfl, ht⟩
  | item y =>
    cases y with
    | cmd w => exact ⟨cmdInstr w, isCommand_cmdInstr w, ht⟩
    | flags | symbol | window | charFrame | call => exact absurd hx Bool.false_ne_true

/-- What holds after reset, whatever inputs wait, and is kept by every command, holds of every reachable state. -/
theorem Reachable.of_commands {P : State → Prop} (hreset : P State.reset)
    (htake : ∀ (x : Input) (s : State), P s → P (takeInput [] (offer x s)))
    (hexec : ∀ (i : Instr) (s t : State), i.isCommand = true → P s → exec i s = .next t → P t) {s : State}
    (hs : Reachable s) : P s := by
  induction hs with
  | reset => exact hreset
  | input _ hx ht ih =>
    obtain ⟨i, hi, hexec'⟩ := exists_command_of_hardware_step hx ht
    exact hexec i _ _ hi (htake _ _ ih) hexec'

/-! ### Results before the synchronisation -/

/-- The results that R206 denies a failed run: `out`, `nbit`, `nchar`. -/
def results (s : State) : List Byte × Nat × Nat := (s.str.out, s.cnt.nbit, s.cnt.nchar)

/-- A state in which the synchronizer still seeks has the results of `s`, where it was seeking too. -/
def SeeksFrom (s t : State) : Prop := t.sync.ph ≠ .extract → s.sync.ph ≠ .extract ∧ results t = results s

section Seeks

variable (s : State)

/-- The two scans emit nothing (R115, R116), and Phase B is not left (R121). -/
theorem SeeksFrom.syncStep (b : Bit) : SeeksFrom s (syncStep b s) := by
  intro hph
  cases hs : s.sync.ph with
  | seekMark =>
    rw [syncStep_of_seekMark hs, syncSeekMark]
    cases b <;> exact ⟨nofun, rfl⟩
  | seekSpace =>
    rw [syncStep_of_seekSpace hs, syncSeekSpace]
    cases b <;> exact ⟨nofun, rfl⟩
  | extract =>
    obtain ⟨_, _, _, _, hkept, _⟩ := syncExtract_frame b s
    rw [syncStep_of_extract hs, hkept] at hph
    exact absurd hs hph

theorem SeeksFrom.emitSym (b : Bit) : SeeksFrom s (emitSym b s) := SeeksFrom.syncStep (countSymbol b s) b

theorem SeeksFrom.fclose : SeeksFrom s (fclose s) :=
  SeeksFrom.emitSym { s with tone := closedTone (frameFlags s) s.tone } _

theorem SeeksFrom.gstep (x : NumQ) : SeeksFrom s (gstep x s) := by
  obtain ⟨_, h⟩ | ⟨_, h⟩ := gstep_cases x s <;> rw [h]
  · exact SeeksFrom.fclose (takeSample x s)
  · exact fun hph => ⟨hph, rfl⟩

theorem SeeksFrom.closeShortFrame : SeeksFrom s (closeShortFrame s) := by
  rw [Machine.closeShortFrame]
  split
  · exact SeeksFrom.fclose s
  · exact fun hph => ⟨hph, rfl⟩

end Seeks

/-! ### Errors are precise (R206) -/

/-- A failed run, and an open one that can still fail (R200, R201), has no results. -/
structure Precise (s : State) : Prop where
  err : s.ctl.run = .err → results s = ([], 0, 0)
  unseen : s.ctl.run = .run → s.cfg.src = .samples → s.tone.seen = b0 → results s = ([], 0, 0)
  unsynced : s.ctl.run = .run → s.cfg.src ≠ .bits → s.sync.ph ≠ .extract → results s = ([], 0, 0)

section PreciseRules

variable {s t : State} {i : Instr}

theorem Precise.of_results (h : results s = ([], 0, 0)) : Precise s := ⟨fun _ => h, fun _ _ _ => h, fun _ _ _ => h⟩

theorem Precise.gstep (h : Precise s) (hrun : s.ctl.run = .run) (hsrc : s.cfg.src = .samples) (x : NumQ) :
    Precise (gstep x s) := by
  obtain ⟨_, hctl, _⟩ := gstep_frame x s
  refine ⟨by simp [hctl, hrun], by simp [gstep_seen], fun _ _ hph => ?_⟩
  obtain ⟨hseeks, hres⟩ := SeeksFrom.gstep s x hph
  exact hres.trans (h.unsynced hrun (by simp [hsrc]) hseeks)

theorem Precise.emitSym (h : Precise s) (hrun : s.ctl.run = .run) (hsrc : s.cfg.src = .symbols) (b : Bit) :
    Precise (emitSym b s) := by
  obtain ⟨hcfg, hctl, _, _⟩ := emitSym_frame b s
  refine ⟨by simp [hctl, hrun], by simp [hcfg, hsrc], fun _ _ hph => ?_⟩
  obtain ⟨hseeks, hres⟩ := SeeksFrom.emitSym s b hph
  exact hres.trans (h.unsynced hrun (by simp [hsrc]) hseeks)

/-- A bit run is not checked (R188, R189 step 3): it cannot fail. -/
theorem Precise.emitBit (hrun : s.ctl.run = .run) (hsrc : s.cfg.src = .bits) (b : Bit) : Precise (emitBit b s) := by
  obtain ⟨hcfg, hctl, _, _, _⟩ := emitBit_frame b s
  exact ⟨by simp [hctl, hrun], by simp [hcfg, hsrc], by simp [hcfg, hsrc]⟩

/-- Where the check of `END` fails, the run was already unsynchronised before its short frame was closed. -/
theorem Precise.results_of_failed_check (h : Precise s) (hrun : s.ctl.run = .run) (hsrc : s.cfg.src ≠ .bits)
    (hph : (closeShortFrame s).sync.ph ≠ .extract) :
    results s = ([], 0, 0) ∧ results (closeShortFrame s) = ([], 0, 0) := by
  obtain ⟨hseeks, hres⟩ := SeeksFrom.closeShortFrame s hph
  have hnone := h.unsynced hrun hsrc hseeks
  exact ⟨hnone, hres.trans hnone⟩

theorem Precise.effect (h : Precise s) (ht : CommandEffect s i t) : Precise t := by
  cases ht with
  | refused => exact ⟨h.err, h.unseen, h.unsynced⟩
  | observed => exact ⟨h.err, h.unseen, h.unsynced⟩
  | configured _ _ hrun => exact ⟨h.err, fun hopen => absurd hopen hrun, fun hopen => absurd hopen hrun⟩
  | reset | failedStart | opened => exact .of_results rfl
  | sample w hrun hsrc => exact h.gstep hrun hsrc _
  | sym b hrun hsrc => exact h.emitSym hrun hsrc b
  | bit b hrun hsrc => exact .emitBit hrun hsrc b
  | unseen hrun hsrc hseen => exact .of_results (h.unseen hrun hsrc hseen)
  | unsynced hrun _ hsrc hph => exact .of_results (h.results_of_failed_check hrun hsrc hph).2
  | finished => exact ⟨nofun, nofun, nofun⟩

theorem Reachable.precise (hs : Reachable s) : Precise s :=
  hs.of_commands (.of_results rfl) (fun _ _ h => ⟨h.err, h.unseen, h.unsynced⟩)
    fun _ _ _ hi h ht => h.effect (.of_exec hi ht)

/-- No command makes an open run with a result fail. -/
theorem Precise.run_ne_err (h : Precise s) (hrun : s.ctl.run = .run) (hres : results s ≠ ([], 0, 0))
    (ht : CommandEffect s i t) : t.ctl.run ≠ .err := by
  cases ht with
  | refused | observed => simp [hrun]
  | configured _ _ hclosed => exact absurd hrun hclosed
  | reset | opened | finished => nofun
  | failedStart hacc => simp [accepted_start, hrun] at hacc
  | sample w =>
    obtain ⟨_, hctl, _⟩ := gstep_frame (q16 w) s
    simp [hctl, hrun]
  | sym b =>
    obtain ⟨_, hctl, _⟩ := emitSym_frame b s
    simp [hctl, hrun]
  | bit b =>
    obtain ⟨_, hctl, _⟩ := emitBit_frame b s
    simp [hctl, hrun]
  | unseen _ hsrc hseen => exact absurd (h.unseen hrun hsrc hseen) hres
  | unsynced _ _ hsrc hph => exact absurd (h.results_of_failed_check hrun hsrc hph).1 hres

end PreciseRules

/-- Settles O51: every reachable state is precise, and an input of the hardware runs a command. -/
theorem failedRunsDeliverNoText : Obligations.FailedRunsDeliverNoText := by
  refine ⟨fun s hs herr => ?_, fun s t x hs hrun hout hx ht => ?_⟩
  · simpa [results] using hs.precise.err herr
  · obtain ⟨i, hi, hexec⟩ := exists_command_of_hardware_step hx ht
    have htaken : Precise (takeInput [] (offer x s)) := ⟨hs.precise.err, hs.precise.unseen, hs.precise.unsynced⟩
    exact htaken.run_ne_err hrun (fun hres => hout (Prod.ext_iff.1 hres).1) (.of_exec hi hexec)

end Sys2Proof.Machine
end

section
/-!
PROOFS. Decode after encode (R60 to R66). A command's word is `cmdWord` of its fields, which read back; a frame's bits
name the row of its key; in every other format the stimulus holds the operands themselves.
-/

namespace Sys2Proof.Decode

/-! ### The formats read back -/

/-- A command word decodes by its `op` field; the row then reads the other two (R62). -/
theorem decode_cmdWord (op reg : BitVec 4) (d : Word32) :
    decode (.cmd (cmdWord op reg d)) = .ok (cmdInstr (cmdWord op reg d)) := rfl

/-- A frame whose stop bits arrive in order decodes to the row of its key, with those stop bits (R60, R66). -/
theorem frameInstr_frameBits {stop1 stop2 : Option Bit} (h : Instr.stopsInOrder stop1 stop2 = true)
    (start k0 k1 k2 k3 k4 : Bit) :
    frameInstr (frameBits start k0 k1 k2 k3 k4 stop1 stop2) = .ok (codeInstr k0 k1 k2 k3 k4 start stop1 stop2) := by
  cases stop1 with
  | none =>
    cases stop2 with
    | none => rfl
    | some => exact absurd h Bool.false_ne_true
  | some => cases stop2 <;> rfl

/-! ### The round trip -/

/-- Settles O4: the formats one after another; well-formedness gives the lengths that select a window or a short chunk,
and the order of a frame's stop bits. -/
theorem decodeOfEncodeIsTheInstruction : Obligations.DecodeOfEncodeIsTheInstruction := by
  intro i hwf
  cases i
  case syncExtractW7 w | syncExtractW8 w =>
    have hlen := eq_of_beq hwf
    simp only [encode, decode, windowInstr, hlen]
  case codeShort1 chunk =>
    match chunk, eq_of_beq hwf with
    | [_], _ => rfl
  case codeShort2 chunk =>
    match chunk, eq_of_beq hwf with
    | [_, _], _ => rfl
  case codeShort3 chunk =>
    match chunk, eq_of_beq hwf with
    | [_, _, _], _ => rfl
  case codeShort4 chunk =>
    match chunk, eq_of_beq hwf with
    | [_, _, _, _], _ => rfl
  case codeShort5 chunk =>
    match chunk, eq_of_beq hwf with
    | [_, _, _, _, _], _ => rfl
  case gstep | fclose | syncStep | syncEnd | decPush | decEmit | decFlush | syncSeekMark | syncSeekSpace | fbx00 | fbx01
    | fbx10 | fbx11 => rfl
  case nop | cfgFrameSize | cfgCoeffMark | cfgCoeffSpace | cfgMode | cfgThresh | cfgReserved5 | cfgReserved6
    | cfgReserved7 | cfgStatus | cfgSymbolCount | cfgBitCount | cfgCharCount | cfgSyncAnchor | cfgReservedD
    | cfgReservedE | cfgReservedF | start | sample | sym | bit | endRun | rdFrameSize | rdCoeffMark | rdCoeffSpace
    | rdMode | rdThresh | rdReserved5 | rdReserved6 | rdReserved7 | rdStatus | rdSymbolCount | rdBitCount
    | rdCharCount | rdSyncAnchor | rdReservedD | rdReservedE | rdReservedF | reservedOp8 | reservedOp9 | reservedOpA
    | reservedOpB | reservedOpC | reservedOpD | reservedOpE | rst =>
      simp [encode, decode_cmdWord, cmdInstr, cfgInstr, rdInstr]
  all_goals exact frameInstr_frameBits hwf _ _ _ _ _ _

/-- Settles O3: each word is written out, so its fields compute. -/
theorem writtenWordsDecodeToTheirInstructions : Obligations.WrittenWordsDecodeToTheirInstructions := by
  unfold Obligations.WrittenWordsDecodeToTheirInstructions
  and_intros <;> rfl

end Sys2Proof.Decode
end

section
/-!
PROOFS. The step and its port (R180, R219, R230), and what every command leaves alone or moves: the port, the
configuration (R11), `rej` (R18), `run` (R16), `err` (R203) and the streams (R28). Each goes by the account of what a
command can do, `CommandEffect`.
-/

namespace Sys2Proof.Machine

open Decode

/-! ### The step -/

/-- Settles O1: what `exec` is given is the state with the input taken. -/
theorem stepRunsTheDecodedInstruction : Obligations.StepRunsTheDecodedInstruction := by
  intro s x rest i hport hdecode
  simp only [step, hport, hdecode]
  rfl

/-- Settles O2: the other outcomes of a step, by the head of the port. -/
theorem stepWithoutAnInstruction : Obligations.StepWithoutAnInstruction := by
  refine ⟨fun s => step_idle, fun s rest hport => ?_, fun s x rest e hport hdecode => ?_⟩
  · simp only [step, hport]
    rfl
  · simp only [step, hport, hdecode]

/-- A step on a command word runs the instruction of the word. -/
theorem step_cmd {s : State} {w : CmdWord} {rest : List Input} (hport : s.env.pending = .item (.cmd w) :: rest) :
    step s = exec (cmdInstr w) (takeInput rest s) :=
  stepRunsTheDecodedInstruction s (.cmd w) rest _ hport rfl

/-- Settles O9: `RST` is the reset of the block. -/
theorem resetKeepsTheInputsStillWaiting : Obligations.ResetKeepsTheInputsStillWaiting := fun _ => rfl

/-! ### What the operations of a run leave alone -/

section Frames

variable (b : Bit) (x : NumQ) (s : State)

@[simp] theorem emitBit_cfg : (emitBit b s).cfg = s.cfg := have ⟨h, _⟩ := emitBit_frame b s; h
@[simp] theorem emitBit_ctl : (emitBit b s).ctl = s.ctl := have ⟨_, h, _⟩ := emitBit_frame b s; h
@[simp] theorem emitBit_tone : (emitBit b s).tone = s.tone := have ⟨_, _, h, _⟩ := emitBit_frame b s; h
@[simp] theorem emitBit_sync : (emitBit b s).sync = s.sync := have ⟨_, _, _, h, _⟩ := emitBit_frame b s; h
@[simp] theorem emitBit_env : (emitBit b s).env = s.env := have ⟨_, _, _, _, h⟩ := emitBit_frame b s; h

@[simp] theorem emitSym_cfg : (emitSym b s).cfg = s.cfg := have ⟨h, _⟩ := emitSym_frame b s; h
@[simp] theorem emitSym_ctl : (emitSym b s).ctl = s.ctl := have ⟨_, h, _⟩ := emitSym_frame b s; h
@[simp] theorem emitSym_tone : (emitSym b s).tone = s.tone := have ⟨_, _, h, _⟩ := emitSym_frame b s; h
@[simp] theorem emitSym_env : (emitSym b s).env = s.env := have ⟨_, _, _, h⟩ := emitSym_frame b s; h

@[simp] theorem gstep_cfg : (gstep x s).cfg = s.cfg := have ⟨h, _⟩ := gstep_frame x s; h
@[simp] theorem gstep_ctl : (gstep x s).ctl = s.ctl := have ⟨_, h, _⟩ := gstep_frame x s; h
@[simp] theorem gstep_env : (gstep x s).env = s.env := have ⟨_, _, h⟩ := gstep_frame x s; h

/-- Step 2 of `END` leaves alone what `FCLOSE` does. -/
theorem closeShortFrame_frame :
    (closeShortFrame s).cfg = s.cfg ∧ (closeShortFrame s).ctl = s.ctl ∧ (closeShortFrame s).env = s.env := by
  rw [closeShortFrame]
  split
  · exact fclose_frame s
  · exact ⟨rfl, rfl, rfl⟩

@[simp] theorem closeShortFrame_cfg : (closeShortFrame s).cfg = s.cfg := have ⟨h, _⟩ := closeShortFrame_frame s; h
@[simp] theorem closeShortFrame_env : (closeShortFrame s).env = s.env := have ⟨_, _, h⟩ := closeShortFrame_frame s; h

@[simp] theorem decFlush_cfg : (decFlush s).cfg = s.cfg := have ⟨h, _⟩ := decFlush_frame s; h
@[simp] theorem decFlush_ctl : (decFlush s).ctl = s.ctl := have ⟨_, h, _⟩ := decFlush_frame s; h
@[simp] theorem decFlush_sync : (decFlush s).sync = s.sync := have ⟨_, _, _, h, _⟩ := decFlush_frame s; h
@[simp] theorem decFlush_env : (decFlush s).env = s.env := have ⟨_, _, _, _, h⟩ := decFlush_frame s; h

end Frames

section Effect

variable {s t : State} {i : Instr}

/-- No command touches the inputs that wait at the port. -/
theorem CommandEffect.pending_eq (h : CommandEffect s i t) : t.env.pending = s.env.pending := by
  cases h <;> simp [Machine.opened]

end Effect

/-- Settles O6: a command word runs a command, which has a next state and leaves the port as it is. -/
theorem everyCommandWordHasANextState : Obligations.EveryCommandWordHasANextState := by
  intro s w rest hport
  obtain ⟨t, ht⟩ := exec_next (cmdInstr w) (takeInput rest s)
  exact ⟨t, (step_cmd hport).trans ht, (CommandEffect.of_exec (isCommand_cmdInstr w) ht).pending_eq⟩

/-! ### The configuration, `rej` and `run` -/

/-- `NOP` and `RD` are none of the commands that move `run`. -/
theorem ne_start_rst_endRun_of_isObserver {i : Instr} (hi : isObserver i = true) :
    i ≠ .start ∧ i ≠ .rst ∧ i ≠ .endRun := by
  refine ⟨?_, ?_, ?_⟩ <;> rintro rfl <;> exact absurd hi Bool.false_ne_true

/-- Nor is a `CFG`. -/
theorem ne_start_rst_endRun_of_isCfgWrite {i : Instr} (hi : isCfgWrite i = true) :
    i ≠ .start ∧ i ≠ .rst ∧ i ≠ .endRun := by
  refine ⟨?_, ?_, ?_⟩ <;> rintro rfl <;> exact absurd hi Bool.false_ne_true

theorem accepted_rst (s : State) : accepted .rst s = true := rfl

/-- Settles O52: the effects that change the configuration are the reset and an accepted `CFG`, which is not accepted in
`RUN`. -/
theorem configurationIsFixedWhileARunIsOpen : Obligations.ConfigurationIsFixedWhileARunIsOpen := by
  intro i s t hi ht
  cases CommandEffect.of_exec hi ht with
  | reset => exact ⟨fun h => absurd rfl h, fun h => absurd rfl h⟩
  | configured hwrite _ hrun => exact ⟨fun _ h => absurd h hrun, fun _ h => by simp [hwrite] at h⟩
  | refused | observed | failedStart | opened | sample | sym | bit | unseen | unsynced | finished =>
    simp [opened]

/-- Settles O13: a refusal sets `rej`, the reset and an accepted `START` clear it, and the other effects leave it. -/
theorem rejIsSetByRefusalAndStaysUntilStartOrReset : Obligations.RejIsSetByRefusalAndStaysUntilStartOrReset := by
  intro i s t hi ht
  cases CommandEffect.of_exec hi ht with
  | refused hacc => simp [hacc]
  | reset => simp [accepted_rst, Control.reset]
  | observed hobs hacc => simp [hacc, ne_start_rst_endRun_of_isObserver hobs]
  | configured hwrite hacc => simp [hacc, ne_start_rst_endRun_of_isCfgWrite hwrite]
  | failedStart hacc | opened hacc => simp [hacc, opened]
  | sample _ hrun hsrc | sym _ hrun hsrc | bit _ hrun hsrc =>
    simp [accepted_sample, accepted_sym, accepted_bit, hrun, hsrc]
  | unseen hrun | unsynced hrun | finished hrun => simp [accepted_endRun, hrun, closeShortFrame_ctl]

/-- Settles O53: the effects that move `run`, and where they leave it. -/
theorem runStateMovesByStartEndAndReset : Obligations.RunStateMovesByStartEndAndReset := by
  intro i s t hi ht hmoved
  cases CommandEffect.of_exec hi ht with
  | reset => exact .inl ⟨rfl, rfl⟩
  | failedStart hacc | opened hacc =>
    have hrun : s.ctl.run ≠ .run := by
      rintro hrun
      simp [accepted_start, hrun] at hacc
    simp [opened, hrun]
  | unseen hrun | unsynced hrun | finished hrun => simp [hrun]
  | refused | observed | configured | sample | sym | bit => simp at hmoved

/-! ### Errors (R200, R201, R203) -/

/-- When the command `i`, which takes `s` to `t`, raises `e` (R200, R201): the three places of the table. -/
inductive Raises (s t : State) : Instr → ErrCause → Prop where
  /-- R185 step 5. -/
  | badSize (hacc : accepted .start s = true) (hsrc : s.cfg.src = .samples) (hsize : s.cfg.frameSize.toInt ≤ 0) :
    Raises s t .start .invalidFrameSize
  /-- R189 step 1. -/
  | unseen (hrun : s.ctl.run = .run) (hsrc : s.cfg.src = .samples) (hseen : s.tone.seen = b0) :
    Raises s t .endRun .invalidFrameSize
  /-- R189 step 3. -/
  | unsynced (hrun : s.ctl.run = .run) (hsrc : s.cfg.src = .samples ∧ s.tone.seen = b1 ∨ s.cfg.src = .symbols)
    (hph : t.sync.ph ≠ .extract) : Raises s t .endRun .syncNotFound

section Effect

variable {s t : State} {i : Instr}

/-- The condition of the table, as the statement writes it. -/
theorem exists_raises_iff : (∃ e, Raises s t i e) ↔
    (i = .start ∧ accepted .start s = true ∧ s.cfg.src = .samples ∧ s.cfg.frameSize.toInt ≤ 0)
      ∨ (i = .endRun ∧ s.ctl.run = .run ∧ s.cfg.src = .samples ∧ s.tone.seen = b0)
      ∨ (i = .endRun ∧ s.ctl.run = .run ∧ (s.cfg.src = .samples ∧ s.tone.seen = b1 ∨ s.cfg.src = .symbols)
          ∧ t.sync.ph ≠ .extract) := by
  constructor
  · rintro ⟨_, ⟨hacc, hsrc, hsize⟩ | ⟨hrun, hsrc, hseen⟩ | ⟨hrun, hsrc, hph⟩⟩
    · exact .inl ⟨rfl, hacc, hsrc, hsize⟩
    · exact .inr (.inl ⟨rfl, hrun, hsrc, hseen⟩)
    · exact .inr (.inr ⟨rfl, hrun, hsrc, hph⟩)
  · rintro (⟨rfl, hacc, hsrc, hsize⟩ | ⟨rfl, hrun, hsrc, hseen⟩ | ⟨rfl, hrun, hsrc, hph⟩)
    · exact ⟨_, .badSize hacc hsrc hsize⟩
    · exact ⟨_, .unseen hrun hsrc hseen⟩
    · exact ⟨_, .unsynced hrun hsrc hph⟩

/-- The source and `seen` of a run that `END` checks. -/
theorem checked_source {s : State} (hseen : ¬(s.cfg.src = .samples ∧ s.tone.seen = b0)) (hsrc : s.cfg.src ≠ .bits) :
    s.cfg.src = .samples ∧ s.tone.seen = b1 ∨ s.cfg.src = .symbols := by
  cases h : s.cfg.src <;> simp_all

/-- A command raises what the table says, or nothing: then it does not enter `ERR`, and `err` is kept or cleared. -/
theorem CommandEffect.error_cases (h : CommandEffect s i t) :
    (∃ e, Raises s t i e ∧ t.ctl.run = .err ∧ t.ctl.err = e)
      ∨ ((¬∃ e, Raises s t i e) ∧ (t.ctl.run = .err → s.ctl.run = .err ∧ ¬(i = .start ∧ accepted .start s = true))
          ∧ (t.ctl.err = s.ctl.err ∨ t.ctl.err = .none)) := by
  rw [exists_raises_iff]
  cases h with
  | failedStart hacc hbad => exact .inl ⟨_, .badSize hacc hbad.1 hbad.2, rfl, rfl⟩
  | unseen hrun hsrc hseen => exact .inl ⟨_, .unseen hrun hsrc hseen, rfl, rfl⟩
  | unsynced hrun hseen hsrc hph => exact .inl ⟨_, .unsynced hrun (checked_source hseen hsrc) hph, rfl, rfl⟩
  | refused hacc =>
    refine .inr ⟨?_, fun herr => ⟨herr, ?_⟩, .inl rfl⟩
    · rintro (⟨rfl, h, _⟩ | ⟨rfl, hrun, _⟩ | ⟨rfl, hrun, _⟩)
      · simp [hacc] at h
      · simp [accepted_endRun, hrun] at hacc
      · simp [accepted_endRun, hrun] at hacc
    · rintro ⟨rfl, h⟩
      simp [hacc] at h
  | reset => exact .inr (by simp [Control.reset])
  | observed hobs => exact .inr (by simp [ne_start_rst_endRun_of_isObserver hobs])
  | configured hwrite => exact .inr (by simp [ne_start_rst_endRun_of_isCfgWrite hwrite])
  | opened hacc hgood =>
    refine .inr ⟨?_, nofun, .inr rfl⟩
    rintro (⟨_, _, hsrc, hsize⟩ | ⟨h, _⟩ | ⟨h, _⟩)
    · exact hgood ⟨hsrc, hsize⟩
    · cases h
    · cases h
  | sample w hrun | sym b hrun | bit b hrun => exact .inr (by simp [hrun])
  | finished hrun hseen hok =>
    refine .inr ⟨?_, nofun, .inl (by simp [closeShortFrame_ctl])⟩
    rintro (⟨h, _⟩ | ⟨_, _, hunseen⟩ | ⟨_, _, hsrc, hph⟩)
    · cases h
    · exact hseen hunseen
    · obtain hbits | hsynced := hok
      · simp [hbits] at hsrc
      · simp [hsynced] at hph

end Effect

/-- Settles O54: the condition and the cause are those of `Raises`; a command that raises nothing changes `err` only to
clear it. -/
theorem errorsAreRaisedOnlyAsTheTableSays : Obligations.ErrorsAreRaisedOnlyAsTheTableSays := by
  intro i s t hi ht
  rw [← exists_raises_iff]
  obtain ⟨e, hraise, hrun, herr⟩ | ⟨hnone, hrun, herr⟩ := (CommandEffect.of_exec hi ht).error_cases
  · cases hraise with
    | badSize hacc hsrc hsize =>
      exact ⟨⟨fun _ => ⟨_, .badSize hacc hsrc hsize⟩, fun _ => ⟨hrun, fun _ => ⟨rfl, hacc⟩⟩⟩, fun _ _ _ _ => herr,
        nofun, nofun, fun _ _ => .inl rfl, by simp [herr], fun _ _ => hrun⟩
    | unseen hopen hsrc hseen =>
      exact ⟨⟨fun _ => ⟨_, .unseen hopen hsrc hseen⟩, fun _ => ⟨hrun, by simp [hopen]⟩⟩, nofun, fun _ _ _ _ => herr,
        by simp [hsrc, hseen], fun _ _ => .inr ⟨rfl, hsrc, hseen⟩, by simp [herr], fun _ _ => hrun⟩
    | unsynced hopen hsrc hph =>
      have hbits : s.cfg.src ≠ .bits := by
        rintro h
        simp [h] at hsrc
      exact ⟨⟨fun _ => ⟨_, .unsynced hopen hsrc hph⟩, fun _ => ⟨hrun, by simp [hopen]⟩⟩, nofun,
        fun _ _ h h' => by simp [h, h'] at hsrc, fun _ _ _ _ => herr, by simp [herr], fun _ _ => ⟨rfl, hbits, hph⟩,
        fun _ _ => hrun⟩
  · have hcleared (hchanged : t.ctl.err ≠ s.ctl.err) : t.ctl.err = .none := herr.resolve_left hchanged
    refine ⟨⟨fun ⟨hend, hcause⟩ => ?_, fun h => absurd h hnone⟩, ?_, ?_, ?_, fun h h' => ?_, fun h h' => ?_,
      fun h h' => ?_⟩
    · obtain ⟨hbefore, hstart⟩ := hrun hend
      exact absurd (hcause hbefore) hstart
    · rintro rfl hacc hsrc hsize
      exact absurd ⟨_, .badSize hacc hsrc hsize⟩ hnone
    · rintro rfl hopen hsrc hseen
      exact absurd ⟨_, .unseen hopen hsrc hseen⟩ hnone
    · rintro rfl hopen hsrc hph
      exact absurd ⟨_, .unsynced hopen hsrc hph⟩ hnone
    · simp [hcleared h] at h'
    · simp [hcleared h] at h'
    · exact absurd (hcleared h) h'

/-! ### The streams (R28) -/

/-- From `s` to `t` each stream only grows. -/
def Grows (s t : State) : Prop :=
  s.str.out <+: t.str.out ∧ s.str.tapSym <+: t.str.tapSym ∧ s.str.tapBit <+: t.str.tapBit

section Effect

variable {s t u : State} {i : Instr}

theorem Grows.of_str_eq (h : t.str = s.str) : Grows s t := by simp [Grows, h]

theorem Grows.trans (h : Grows s t) (h' : Grows t u) : Grows s u := by
  obtain ⟨hout, hsym, hbit⟩ := h
  obtain ⟨hout', hsym', hbit'⟩ := h'
  exact ⟨hout.trans hout', hsym.trans hsym', hbit.trans hbit'⟩

theorem Grows.decFlush (s : State) : Grows s (decFlush s) := by
  obtain ⟨_, h⟩ | ⟨_, h⟩ := decFlush_cases s <;> rw [h]
  · exact .of_str_eq rfl
  · simp [Grows, decEmit]

theorem Grows.emitBit (b : Bit) (s : State) : Grows s (emitBit b s) := by
  rw [Machine.emitBit, decPush]
  split <;> simp [Grows, decEmit]

theorem Grows.emitSym (b : Bit) (s : State) : Grows s (emitSym b s) := by
  have hcount : Grows s (countSymbol b s) := by simp [Grows, countSymbol]
  rw [emitSym_eq]
  obtain ⟨y, h⟩ | ⟨b', y, h⟩ := syncStep_cases b (countSymbol b s) <;> rw [h]
  · exact hcount
  · exact hcount.trans (Grows.emitBit b' { countSymbol b s with sync := y })

theorem Grows.fclose (s : State) : Grows s (fclose s) :=
  Grows.emitSym _ { s with tone := closedTone (frameFlags s) s.tone }

theorem Grows.gstep (x : NumQ) (s : State) : Grows s (gstep x s) := by
  obtain ⟨_, h⟩ | ⟨_, h⟩ := gstep_cases x s <;> rw [h]
  · exact Grows.fclose (takeSample x s)
  · exact .of_str_eq rfl

theorem Grows.closeShortFrame (s : State) : Grows s (closeShortFrame s) := by
  rw [Machine.closeShortFrame]
  split
  · exact Grows.fclose s
  · exact .of_str_eq rfl

/-- Every effect but those of `START` and `RST` lets the streams grow, and outside `RUN` neither they nor the counters
change. -/
theorem CommandEffect.grows (h : CommandEffect s i t) (hstart : i ≠ .start) (hrst : i ≠ .rst) :
    Grows s t ∧ (s.ctl.run ≠ .run → t.str = s.str ∧ t.cnt = s.cnt) := by
  cases h with
  | refused | observed | configured => exact ⟨.of_str_eq rfl, fun _ => ⟨rfl, rfl⟩⟩
  | reset => exact absurd rfl hrst
  | failedStart | opened => exact absurd rfl hstart
  | sample w hrun => exact ⟨Grows.gstep _ s, fun h => absurd hrun h⟩
  | sym b hrun => exact ⟨Grows.emitSym b s, fun h => absurd hrun h⟩
  | bit b hrun => exact ⟨Grows.emitBit b s, fun h => absurd hrun h⟩
  | unseen hrun => exact ⟨.of_str_eq rfl, fun h => absurd hrun h⟩
  | unsynced hrun => exact ⟨Grows.closeShortFrame s, fun h => absurd hrun h⟩
  | finished hrun => exact ⟨(Grows.closeShortFrame s).trans (Grows.decFlush _), fun h => absurd hrun h⟩

end Effect

/-- Settles O56: the account of the effects, clause by clause. -/
theorem streamsOnlyGrowWithinARun : Obligations.StreamsOnlyGrowWithinARun := by
  intro i s t hi hstart hrst ht
  obtain ⟨⟨hout, hsym, hbit⟩, hclosed⟩ := (CommandEffect.of_exec hi ht).grows hstart hrst
  exact ⟨hout, hsym, hbit, hclosed⟩

end Sys2Proof.Machine
end

section
/-!
PROOFS. The invariant of spec/10_state.md R29 and the bounds of R24, R26 that carry it. What it says of the synchronizer
(`SyncInv`) and of the decoder (`DecInv`) holds whatever `run` is, and each operation keeps it; what it says of `run`
is put together from those two parts, for an open run, a failed one and a finished one in turn.
-/

namespace Sys2Proof.Machine

open Decode

/-! ### The parts of the invariant -/

/-- What the invariant says of the synchronizer, of `nsym` and of `tap_sym` (R29 (b), (c), (g), R24). -/
structure SyncInv (s : State) : Prop where
  nsym_eq : s.cnt.nsym = s.str.tapSym.length
  unsynced : s.sync.ph ≠ .extract → s.sync.pos = 0 ∧ s.sync.w = .seven ∧ s.sync.acc = 0
  window_grid : s.sync.ph = .extract →
    s.sync.w = (if s.cnt.nbit % 2 = 0 then .seven else .eight)
      ∧ s.cnt.nsym = s.sync.anchor + windowSpan s.cnt.nbit + s.sync.pos
  pos_lt : s.sync.pos < windowLength s.sync.w
  acc_le : s.sync.acc ≤ s.sync.pos - 1 ∧ s.sync.acc ≤ 5

/-- What the invariant says of the decoder, of `nbit`, `nchar` and their streams (R29 (b), (d), R26). -/
structure DecInv (s : State) : Prop where
  nbit_eq : s.cnt.nbit = s.str.tapBit.length
  nchar_eq : s.cnt.nchar = s.str.out.length
  no_bits : s.cnt.nbit = 0 → s.dec.k = 0 ∧ s.dec.key = [] ∧ s.str.out = []
  key_length : s.dec.k ≤ 7 ∧ s.dec.key.length = min (s.dec.k - 1) 5

/-- R29 (f), for an open run. -/
def ChunkGrid (s : State) : Prop := s.dec.k = s.cnt.nbit % 8 ∧ s.cnt.nchar = s.cnt.nbit / 8

/-- Without synchronisation no BaudotBit has come out of the synchronizer (R29 (c), second clause). -/
def NoBitsUnsynced (s : State) : Prop := s.sync.ph ≠ .extract → s.cnt.nbit = 0

/-- What the invariant says of an open run by its source (R29 (c), (h), R188, R200, R185). -/
structure SourceInv (s : State) : Prop where
  unsynced_nbit : s.cfg.src ≠ .bits → NoBitsUnsynced s
  frame_open : s.cfg.src = .samples → (s.tone.n : Int) < frameSize s
  bits_idle : s.cfg.src = .bits → s.sync.ph = .seekMark ∧ s.cnt.nsym = 0
  unseen : s.cfg.src = .samples → s.tone.seen = b0 → s.tone.n = 0 ∧ s.cnt.nsym = 0 ∧ s.cnt.nbit = 0
  values : s.cfg.src = .samples →
    s.cfg.coeffMark ≠ none ∧ s.cfg.coeffSpace ≠ none ∧ (s.cfg.abs = b1 → s.cfg.thresh ≠ none)

section Parts

variable {s : State}

theorem Inv.syncInv (h : Inv s) : SyncInv s := { h with }

theorem Inv.decInv (h : Inv s) : DecInv s := { h with }

theorem Inv.sourceInv (h : Inv s) (hrun : s.ctl.run = .run) : SourceInv s where
  unsynced_nbit := h.unsynced_nbit (by simp [hrun])
  frame_open := h.frame_open hrun
  bits_idle := h.bits_idle hrun
  unseen := h.unseen hrun
  values := h.values hrun

theorem Inv.err_eq_none (h : Inv s) (hrun : s.ctl.run ≠ .err) : s.ctl.err = .none :=
  not_not.1 fun herr => hrun (h.err_iff.1 herr)

/-- The invariant of an open run. -/
theorem Inv.of_running (hrun : s.ctl.run = .run) (herr : s.ctl.err = .none) (hsync : SyncInv s) (hdec : DecInv s)
    (hgrid : ChunkGrid s) (hsrc : SourceInv s) : Inv s where
  __ := hsync
  __ := hdec
  err_iff := by simp [hrun, herr]
  unsynced_nbit _ := hsrc.unsynced_nbit
  unsynced_done := by simp [hrun]
  idle_clear := by simp [hrun]
  err_empty := by simp [hrun]
  chunk_grid _ := hgrid
  frame_open _ := hsrc.frame_open
  bits_idle _ := hsrc.bits_idle
  unseen _ := hsrc.unseen
  values _ := hsrc.values
  done_chars := by simp [hrun]

/-- The invariant of a failed run: it has no results (R29 (e)). -/
theorem Inv.of_failed (hrun : s.ctl.run = .err) (herr : s.ctl.err ≠ .none) (hsync : SyncInv s) (hdec : DecInv s)
    (hnbit : s.cnt.nbit = 0) : Inv s where
  __ := hsync
  __ := hdec
  err_iff := by simp [hrun, herr]
  unsynced_nbit _ _ _ := hnbit
  unsynced_done := by simp [hrun]
  idle_clear := by simp [hrun]
  err_empty _ := have ⟨_, _, hout⟩ := hdec.no_bits hnbit; ⟨hout, hnbit⟩
  chunk_grid := by simp [hrun]
  frame_open := by simp [hrun]
  bits_idle := by simp [hrun]
  unseen := by simp [hrun]
  values := by simp [hrun]
  done_chars := by simp [hrun]

/-- The invariant of a finished run (R213, log entry 10). -/
theorem Inv.of_done (hrun : s.ctl.run = .done) (herr : s.ctl.err = .none) (hsync : SyncInv s) (hdec : DecInv s)
    (hunsynced : s.sync.ph ≠ .extract → s.sync.ph = .seekMark ∧ s.cnt.nsym = 0)
    (hchars : s.dec.k = 0 ∧ s.cnt.nchar = ceilDiv s.cnt.nbit 8) : Inv s where
  __ := hsync
  __ := hdec
  err_iff := by simp [hrun, herr]
  unsynced_nbit := by simp [hrun]
  unsynced_done _ := hunsynced
  idle_clear := by simp [hrun]
  err_empty := by simp [hrun]
  chunk_grid := by simp [hrun]
  frame_open := by simp [hrun]
  bits_idle := by simp [hrun]
  unseen := by simp [hrun]
  values := by simp [hrun]
  done_chars _ := hchars

end Parts

section Operations

variable {s t : State}

/-! ### The decoder's part -/

/-- What `emit_bit` does before `DEC.PUSH` (R9): the BaudotBit is appended and counted. -/
def countBit (b : Bit) (s : State) : State :=
  { s with str := { s.str with tapBit := s.str.tapBit ++ [b] }, cnt := { s.cnt with nbit := s.cnt.nbit + 1 } }

theorem emitBit_eq (b : Bit) (s : State) : emitBit b s = decPush b (countBit b s) := rfl

/-- One BaudotBit (R136, R137): it joins the open chunk, or it completes the chunk and its character. -/
theorem DecInv.emitBit (h : DecInv s) (hgrid : ChunkGrid s) (b : Bit) :
    DecInv (emitBit b s) ∧ ChunkGrid (emitBit b s) := by
  obtain ⟨hnbit, hnchar, _, hk, hkey⟩ := h
  obtain ⟨hmod, hdiv⟩ := hgrid
  rw [emitBit_eq]
  by_cases hlast : s.dec.k = 7
  · rw [decPush_last (s := countBit b s) hlast]
    refine ⟨⟨by simp [countBit, hnbit], by simp [countBit, hnchar], nofun, by simp⟩, ?_⟩
    simp only [ChunkGrid, countBit]
    omega
  · rw [decPush_open (s := countBit b s) (by simpa [countBit] using hlast)]
    refine ⟨⟨by simp [countBit, hnbit], hnchar, nofun, ?_⟩, ?_⟩
    · simp only [pushBit_k, pushBit_key, isDataPos_iff, countBit]
      split <;> simp <;> omega
    · simp only [ChunkGrid, pushBit_k, pushBit_cnt, countBit]
      omega

/-- The decoder does not see what the synchronizer does before it emits. -/
theorem DecInv.emitSym (h : DecInv s) (hgrid : ChunkGrid s) (b : Bit) :
    DecInv (emitSym b s) ∧ ChunkGrid (emitSym b s) := by
  have hcount (y : Sync) : DecInv { countSymbol b s with sync := y } := { h with }
  rw [emitSym_eq]
  obtain ⟨y, hstep⟩ | ⟨b', y, hstep⟩ := syncStep_cases b (countSymbol b s) <;> rw [hstep]
  · exact ⟨hcount y, hgrid⟩
  · exact (hcount y).emitBit hgrid b'

/-- `DEC.FLUSH` (R138, R213): the open chunk gets its character, and none is open after it. -/
theorem DecInv.decFlush (h : DecInv s) (hgrid : ChunkGrid s) :
    DecInv (decFlush s) ∧ (decFlush s).dec.k = 0 ∧ (decFlush s).cnt.nchar = ceilDiv (decFlush s).cnt.nbit 8 := by
  obtain ⟨hmod, hdiv⟩ := hgrid
  obtain ⟨hk, hflush⟩ | ⟨hk, hflush⟩ := decFlush_cases s <;> rw [hflush]
  · refine ⟨h, hk, ?_⟩
    rw [ceilDiv]
    omega
  · refine ⟨⟨h.nbit_eq, by simp [decEmit, h.nchar_eq], fun hnone => ?_, by simp [decEmit, Dec.reset]⟩, rfl, ?_⟩
    · have ⟨hclosed, _⟩ := h.no_bits hnone
      omega
    · simp only [decEmit, clearChunk_cnt, emitChar_nchar, emitChar_nbit, ceilDiv]
      omega

/-! ### The synchronizer's part -/

/-- A BaudotBit of a bit run leaves the synchronizer idle (R188). -/
theorem SyncInv.emitBit (h : SyncInv s) (hidle : s.sync.ph ≠ .extract) (b : Bit) : SyncInv (emitBit b s) where
  nsym_eq := by
    obtain ⟨hnsym, _⟩ := emitBit_counts b s
    rw [hnsym, emitBit_tapSym, h.nsym_eq]
  unsynced := by simpa using h.unsynced
  window_grid := by simp [hidle]
  pos_lt := by simpa using h.pos_lt
  acc_le := by simpa using h.acc_le

/-- `acc` counts the voted positions passed (R24, R117 step 1). -/
theorem voteSum_le (b : Bit) {y : Sync} (hacc : y.acc ≤ y.pos - 1 ∧ y.acc ≤ 5) :
    voteSum b y ≤ y.pos ∧ voteSum b y ≤ 5 := by
  rw [voteSum_eq]
  split <;> omega

/-- The window that follows `q` BaudotBits (R29 (g)). -/
def gridWindow (q : Nat) : WindowLen := if q % 2 = 0 then .seven else .eight

/-- The next window is the other one, and each window adds its length to the span (R118). -/
theorem gridWindow_succ (q : Nat) :
    gridWindow (q + 1) = flipWindow (gridWindow q)
      ∧ windowSpan (q + 1) = windowSpan q + windowLength (gridWindow q) := by
  obtain hq | hq := Nat.mod_two_eq_zero_or_one q
  · have hnext : (q + 1) % 2 = 1 := by omega
    refine ⟨by simp [gridWindow, hq, hnext], ?_⟩
    rw [gridWindow, if_pos hq, windowLength_seven, windowSpan, windowSpan]
    omega
  · have hnext : (q + 1) % 2 = 0 := by omega
    refine ⟨by simp [gridWindow, hq, hnext], ?_⟩
    rw [gridWindow, if_neg (by omega), windowLength_eight, windowSpan, windowSpan]
    omega

/-- In Phase A the registers of Phase B stand at their `START` values. -/
theorem SyncInv.of_seeking (hnsym : s.cnt.nsym = s.str.tapSym.length) (hph : s.sync.ph ≠ .extract)
    (hidle : s.sync.pos = 0 ∧ s.sync.w = .seven ∧ s.sync.acc = 0) : SyncInv s := by
  obtain ⟨hpos, hw, hacc⟩ := hidle
  exact ⟨hnsym, fun _ => ⟨hpos, hw, hacc⟩, fun h => absurd h hph, by simp [hpos, hw], by simp [hpos, hacc]⟩

/-- `emit_sym` counts the Symbol it appends. -/
theorem countSymbol_nsym (h : SyncInv s) (b : Bit) :
    (countSymbol b s).cnt.nsym = (countSymbol b s).str.tapSym.length := by
  simp [countSymbol, h.nsym_eq]

/-- The BaudotBit of a window just closed (R117 step 3): the next window opens on the grid. -/
theorem SyncInv.emitBit_of_closed {q a : Nat} (hsync : s.sync = ⟨.extract, 0, gridWindow (q + 1), 0, a⟩)
    (hnbit : s.cnt.nbit = q) (hnsym : s.cnt.nsym = s.str.tapSym.length) (hgrid : s.cnt.nsym = a + windowSpan (q + 1))
    (b : Bit) : SyncInv (Machine.emitBit b s) := by
  obtain ⟨hnsym', hnbit', _⟩ := emitBit_counts b s
  rw [hnbit] at hnbit'
  constructor
  · rw [hnsym', emitBit_tapSym, hnsym]
  · simp [hsync]
  · intro _
    rw [emitBit_sync, hsync, hnsym', hnbit', hgrid]
    exact ⟨rfl, rfl⟩
  · simp [hsync, windowLength_pos]
  · simp [hsync]

/-- One Symbol in Phase B (R117, R118): it joins the open window, or it completes the window, which flips, and its
BaudotBit. -/
theorem SyncInv.emitSym_of_extract (h : SyncInv s) (hph : s.sync.ph = .extract) (b : Bit) : SyncInv (emitSym b s) := by
  obtain ⟨hw, hnsym⟩ := h.window_grid hph
  obtain ⟨hflip, hspan⟩ := gridWindow_succ s.cnt.nbit
  obtain ⟨hvotes, hvotes'⟩ := voteSum_le b h.acc_le
  have hw' : s.sync.w = gridWindow s.cnt.nbit := hw
  have hcount := countSymbol_nsym h b
  have hpos := h.pos_lt
  rw [emitSym_eq, syncStep_of_extract (s := countSymbol b s) hph]
  by_cases hlast : s.sync.pos + 1 = windowLength s.sync.w
  · rw [syncExtract_last (s := countSymbol b s) hlast]
    refine SyncInv.emitBit_of_closed (q := s.cnt.nbit) (a := s.sync.anchor) ?_ ?_ ?_ ?_ _
    · simp [countSymbol, hph, hw', hflip]
    · rfl
    · exact hcount
    · simp only [countSymbol]
      rw [hw'] at hlast
      omega
  · rw [syncExtract_open (s := countSymbol b s) hlast]
    refine ⟨hcount, fun hn => absurd hph hn, fun _ => ⟨hw, ?_⟩, ?_, hvotes, hvotes'⟩ <;>
      simp only [countSymbol] <;> omega

/-- One Symbol (R114 to R118). In Phase A the two scans emit nothing; the space that ends it opens the first window, of
seven. -/
theorem SyncInv.emitSym (h : SyncInv s) (hnobits : NoBitsUnsynced s) (b : Bit) :
    SyncInv (emitSym b s) ∧ NoBitsUnsynced (emitSym b s) := by
  have hcount := countSymbol_nsym h b
  cases hph : s.sync.ph with
  | extract =>
    have hsynced : SyncedAt s.sync.anchor (Machine.emitSym b s) := SyncedAt.emitSym ⟨hph, rfl⟩ b
    exact ⟨h.emitSym_of_extract hph b, fun hn => absurd hsynced.1 hn⟩
  | seekMark =>
    have hidle := h.unsynced (by simp [hph])
    have hnbit := hnobits (by simp [hph])
    rw [emitSym_eq, syncStep_of_seekMark (s := countSymbol b s) hph]
    cases b
    · exact ⟨.of_seeking hcount (by simp [syncSeekMark, countSymbol, hph]) hidle, fun _ => hnbit⟩
    · exact ⟨.of_seeking hcount nofun hidle, fun _ => hnbit⟩
  | seekSpace =>
    have hidle := h.unsynced (by simp [hph])
    have hnbit := hnobits (by simp [hph])
    rw [emitSym_eq, syncStep_of_seekSpace (s := countSymbol b s) hph]
    cases b
    · obtain ⟨hpos, hw, hacc⟩ := hidle
      refine ⟨⟨hcount, nofun, fun _ => ⟨?_, ?_⟩, h.pos_lt, h.acc_le⟩, nofun⟩
      · simp [syncSeekSpace, countSymbol, hw, hnbit]
      · simp [syncSeekSpace, countSymbol, hpos, hnbit, windowSpan]
    · exact ⟨.of_seeking hcount (by simp [syncSeekSpace, countSymbol, hph]) hidle, fun _ => hnbit⟩

/-- `DEC.FLUSH` does not touch the synchronizer's part. -/
theorem SyncInv.decFlush (h : SyncInv s) : SyncInv (decFlush s) := by
  obtain ⟨_, hflush⟩ | ⟨_, hflush⟩ := decFlush_cases s <;> rw [hflush]
  · exact h
  · exact { h with }

/-- `FCLOSE` hands one Symbol on (R86 step 4). -/
theorem SyncInv.fclose (h : SyncInv s) (hnobits : NoBitsUnsynced s) :
    SyncInv (fclose s) ∧ NoBitsUnsynced (fclose s) :=
  SyncInv.emitSym (s := { s with tone := closedTone (frameFlags s) s.tone }) { h with } hnobits _

theorem DecInv.fclose (h : DecInv s) (hgrid : ChunkGrid s) : DecInv (fclose s) ∧ ChunkGrid (fclose s) :=
  DecInv.emitSym (s := { s with tone := closedTone (frameFlags s) s.tone }) { h with } hgrid _

/-- `GSTEP` closes the frame it fills, and touches nothing behind the detector else (R85). -/
theorem SyncInv.gstep (h : SyncInv s) (hnobits : NoBitsUnsynced s) (x : NumQ) :
    SyncInv (gstep x s) ∧ NoBitsUnsynced (gstep x s) := by
  have htaken : SyncInv (takeSample x s) := { h with }
  obtain ⟨_, hg⟩ | ⟨_, hg⟩ := gstep_cases x s <;> rw [hg]
  · exact htaken.fclose hnobits
  · exact ⟨htaken, hnobits⟩

theorem DecInv.gstep (h : DecInv s) (hgrid : ChunkGrid s) (x : NumQ) : DecInv (gstep x s) ∧ ChunkGrid (gstep x s) := by
  have htaken : DecInv (takeSample x s) := { h with }
  obtain ⟨_, hg⟩ | ⟨_, hg⟩ := gstep_cases x s <;> rw [hg]
  · exact htaken.fclose hgrid
  · exact ⟨htaken, hgrid⟩

/-- After a sample the open frame is still short of `FRAME_SIZE` (R29 (h)): the sample that reaches it empties it. -/
theorem gstep_frame_open (hopen : (s.tone.n : Int) < frameSize s) (x : NumQ) :
    ((gstep x s).tone.n : Int) < frameSize (gstep x s) := by
  rw [frameSize_congr (gstep_cfg x s)]
  obtain ⟨_, hg⟩ | ⟨hn, hg⟩ := gstep_cases x s <;> rw [hg]
  · rw [fclose_tone]
    simp only [closedTone]
    omega
  · rw [takeSample_n]
    omega

/-- The two parts, after the short frame of an `END` is closed (R189 step 2). -/
theorem Inv.closeShortFrame (h : Inv s) (hrun : s.ctl.run = .run) :
    SyncInv (closeShortFrame s) ∧ DecInv (closeShortFrame s) ∧ ChunkGrid (closeShortFrame s)
      ∧ (s.cfg.src ≠ .bits → NoBitsUnsynced (closeShortFrame s)) := by
  have hnobits := h.unsynced_nbit (by simp [hrun])
  rw [Machine.closeShortFrame]
  split
  case isTrue hframe =>
    obtain ⟨hsync, hnobits'⟩ := h.syncInv.fclose (hnobits (by simp [hframe.1]))
    obtain ⟨hdec, hgrid⟩ := h.decInv.fclose (h.chunk_grid hrun)
    exact ⟨hsync, hdec, hgrid, fun _ => hnobits'⟩
  case isFalse => exact ⟨h.syncInv, h.decInv, h.chunk_grid hrun, hnobits⟩

/-! ### The invariant at the ends of a run -/

/-- In `IDLE` and `ERR` no BaudotBit has been emitted. -/
theorem Inv.nbit_eq_zero (h : Inv s) (hrun : s.ctl.run ≠ .run) (hdone : s.ctl.run ≠ .done) : s.cnt.nbit = 0 := by
  cases hs : s.ctl.run with
  | idle =>
    obtain ⟨_, _, _, hcnt, _⟩ := h.idle_clear hs
    rw [hcnt]
    rfl
  | run => exact absurd hs hrun
  | done => exact absurd hs hdone
  | err => exact (h.err_empty hs).2

/-- Settles O48: the two parts hold of the reset values, and `IDLE` asks for nothing more. -/
theorem invariantHoldsAfterReset : Obligations.InvariantHoldsAfterReset := by
  unfold Obligations.InvariantHoldsAfterReset
  constructor <;> decide

theorem SyncInv.clearRun (s : State) : SyncInv (clearRun s) := .of_seeking rfl nofun ⟨rfl, rfl, rfl⟩

theorem DecInv.clearRun (s : State) : DecInv (clearRun s) := ⟨rfl, rfl, fun _ => ⟨rfl, rfl, rfl⟩, by simp [Dec.reset]⟩

/-- A run that `START` opens (R185 step 6). -/
theorem Inv.opened (hacc : accepted .start s = true) (hgood : ¬(s.cfg.src = .samples ∧ frameSize s ≤ 0)) :
    Inv (opened s) := by
  rw [accepted_start, Bool.and_eq_true, Bool.not_eq_true'] at hacc
  refine .of_running rfl rfl { SyncInv.clearRun s with } { DecInv.clearRun s with }
    (by simp [ChunkGrid, Machine.opened, Dec.reset, Counters.reset]) ?_
  refine ⟨fun _ _ => rfl, fun hsrc => ?_, fun _ => ⟨rfl, rfl⟩, fun _ _ => ⟨rfl, rfl, rfl⟩,
    (missesValue_eq_false_iff s.cfg).1 hacc.2⟩
  exact not_le.1 fun hsize => hgood ⟨hsrc, hsize⟩

/-- A write of the configuration, outside `RUN` (R183). -/
theorem Inv.setCfg (h : Inv s) (hrun : s.ctl.run ≠ .run) (c : Cfg) : Inv (setCfg c s) :=
  { h with
    unsynced_nbit := fun hdone _ _ => h.nbit_eq_zero hrun hdone
    frame_open := fun hopen => absurd hopen hrun
    bits_idle := fun hopen => absurd hopen hrun
    unseen := fun hopen => absurd hopen hrun
    values := fun hopen => absurd hopen hrun }

/-- The end of a run that passes the check (R189 steps 4 and 5). -/
theorem Inv.finished (h : Inv s) (hrun : s.ctl.run = .run)
    (hok : s.cfg.src = .bits ∨ (Machine.closeShortFrame s).sync.ph = .extract) :
    Inv (setRun .done (Machine.decFlush (Machine.closeShortFrame s))) := by
  obtain ⟨hsync, hdec, hgrid, _⟩ := h.closeShortFrame hrun
  obtain ⟨hdec', hchars⟩ := hdec.decFlush hgrid
  refine .of_done rfl ?_ { hsync.decFlush with } { hdec' with } (fun hph => ?_) hchars
  · simp [closeShortFrame_ctl, h.err_eq_none, hrun]
  · obtain hbits | hsynced := hok
    · have hclose : Machine.closeShortFrame s = s := closeShortFrame_of_not_samples (by simp [hbits])
      obtain ⟨hnsym, _⟩ := decFlush_counts s
      obtain ⟨hidle, hnone⟩ := h.bits_idle hrun hbits
      rw [hclose]
      exact ⟨by simpa using hidle, hnsym.trans hnone⟩
    · simp [hsynced] at hph

/-! ### Every command keeps the invariant -/

/-- An input command of an open run keeps the control registers, so only the two parts and the source's clauses are to
be shown. -/
theorem Inv.of_fed (h : Inv s) (hrun : s.ctl.run = .run) (hctl : t.ctl = s.ctl) (hsync : SyncInv t)
    (hdec : DecInv t ∧ ChunkGrid t) (hsrc : SourceInv t) : Inv t :=
  .of_running (by rw [hctl, hrun]) (by rw [hctl]; exact h.err_eq_none (by simp [hrun])) hsync hdec.1 hdec.2 hsrc

/-- `SAMPLE` (R186). -/
theorem Inv.gstep (h : Inv s) (hrun : s.ctl.run = .run) (hsrc : s.cfg.src = .samples) (x : NumQ) :
    Inv (gstep x s) := by
  have hcfg := gstep_cfg x s
  obtain ⟨hsync, hnobits⟩ := h.syncInv.gstep (h.unsynced_nbit (by simp [hrun]) (by simp [hsrc])) x
  refine h.of_fed hrun (gstep_ctl x s) hsync (h.decInv.gstep (h.chunk_grid hrun) x) ?_
  exact ⟨fun _ => hnobits, fun _ => gstep_frame_open (h.frame_open hrun hsrc) x, by simp [hsrc],
    fun _ hseen => absurd ((gstep_seen x s).symm.trans hseen) (by decide), by simpa [hcfg] using h.values hrun⟩

/-- `SYM` (R187). -/
theorem Inv.emitSym (h : Inv s) (hrun : s.ctl.run = .run) (hsrc : s.cfg.src = .symbols) (b : Bit) :
    Inv (emitSym b s) := by
  obtain ⟨hsync, hnobits⟩ := h.syncInv.emitSym (h.unsynced_nbit (by simp [hrun]) (by simp [hsrc])) b
  refine h.of_fed hrun (emitSym_ctl b s) hsync (h.decInv.emitSym (h.chunk_grid hrun) b) ?_
  exact ⟨fun _ => hnobits, by simp [hsrc], by simp [hsrc], by simp [hsrc], by simp [hsrc]⟩

/-- `BIT` (R188). -/
theorem Inv.emitBit (h : Inv s) (hrun : s.ctl.run = .run) (hsrc : s.cfg.src = .bits) (b : Bit) :
    Inv (emitBit b s) := by
  obtain ⟨hidle, hnone⟩ := h.bits_idle hrun hsrc
  obtain ⟨hnsym, _⟩ := emitBit_counts b s
  refine h.of_fed hrun (emitBit_ctl b s) (h.syncInv.emitBit (by simp [hidle]) b)
    (h.decInv.emitBit (h.chunk_grid hrun) b) ?_
  exact ⟨by simp [hsrc], by simp [hsrc], fun _ => ⟨by simpa using hidle, hnsym.trans hnone⟩, by simp [hsrc],
    by simp [hsrc]⟩

/-- Each effect of a command keeps the invariant. -/
theorem Inv.effect {i : Instr} (h : Inv s) (ht : CommandEffect s i t) : Inv t := by
  cases ht with
  | refused | observed => exact { h with }
  | reset => exact { invariantHoldsAfterReset with }
  | configured _ _ hrun c => exact h.setCfg hrun c
  | failedStart => exact .of_failed rfl nofun { SyncInv.clearRun s with } { DecInv.clearRun s with } rfl
  | opened hacc hgood => exact .opened hacc hgood
  | sample w hrun hsrc => exact h.gstep hrun hsrc _
  | sym b hrun hsrc => exact h.emitSym hrun hsrc b
  | bit b hrun hsrc => exact h.emitBit hrun hsrc b
  | unseen hrun hsrc hseen =>
    obtain ⟨_, _, hnbit⟩ := h.unseen hrun hsrc hseen
    exact .of_failed rfl nofun { h.syncInv with } { h.decInv with } hnbit
  | unsynced hrun _ hsrc hph =>
    obtain ⟨hsync, hdec, _, hnobits⟩ := h.closeShortFrame hrun
    exact .of_failed rfl nofun { hsync with } { hdec with } (hnobits hsrc hph)
  | finished hrun _ hok => exact h.finished hrun hok

end Operations

/-- A step on an input of the hardware, or on none: the state is held, or a command runs; the reset input does what
`RST` does (R180, R219, R230). -/
theorem hardware_step_cases {s t : State} (hx : ∀ x ∈ s.env.pending.head?, isHardwareInput x = true)
    (ht : step s = .next t) :
    t = s ∨ ∃ i rest, i.isCommand = true ∧ exec i (takeInput rest s) = .next t := by
  cases hport : s.env.pending with
  | nil => exact .inl (by simpa [step_idle hport] using ht.symm)
  | cons x rest =>
    have hhead : isHardwareInput x = true := hx x (by simp [hport])
    cases x with
    | resetPin =>
      simp only [step, hport] at ht
      exact .inr ⟨.rst, rest, rfl, ht⟩
    | item y =>
      cases y with
      | cmd w => exact .inr ⟨cmdInstr w, rest, isCommand_cmdInstr w, (step_cmd hport).symm.trans ht⟩
      | flags | symbol | window | charFrame | call => exact absurd hhead Bool.false_ne_true

/-- Settles O49: taking the input touches nothing the invariant looks at, and every effect of a command keeps it. -/
theorem hardwareStepKeepsTheInvariant : Obligations.HardwareStepKeepsTheInvariant := by
  intro s t h hx ht
  obtain rfl | ⟨i, rest, hi, hexec⟩ := hardware_step_cases hx ht
  · exact h
  · have htaken : Inv (takeInput rest s) := { h with }
    exact htaken.effect (.of_exec hi hexec)

/-! ### R29 (c) as it is written (log entry 10) -/

/-- Outside `DONE` the two clauses are the invariant's. -/
theorem Inv.r29c {s : State} (h : Inv s) (hrun : s.ctl.run ≠ .done) : R29c s := by
  intro hph
  obtain ⟨hpos, hw, hacc⟩ := h.unsynced hph
  exact ⟨hpos, hw, hacc, fun hsrc => h.unsynced_nbit hrun hsrc hph⟩

/-- In `DONE` the second clause can be broken only by a `CFG MODE` that leaves `BITS`: no other command that leads
there or stays there changes the source, the phase or `nbit`, and a run that `END` finds unsynchronised was a bit run.
-/
theorem R29c.effect {i : Instr} {s t : State} (h : R29c s) (hinv : Inv t) (ht : CommandEffect s i t)
    (hdone : t.ctl.run = .done) (hsrc : s.ctl.run = .done → s.cfg.src = .bits → t.cfg.src = .bits) : R29c t := by
  intro hph
  obtain ⟨hpos, hw, hacc⟩ := hinv.unsynced hph
  refine ⟨hpos, hw, hacc, fun hbits => ?_⟩
  cases ht with
  | refused | observed =>
    obtain ⟨_, _, _, hnbit⟩ := h hph
    exact hnbit hbits
  | configured =>
    obtain ⟨_, _, _, hnbit⟩ := h hph
    exact hnbit fun hs => hbits (hsrc hdone hs)
  | finished _ _ hok =>
    obtain hs | hsynced := hok
    · simp [hs] at hbits
    · simp [hsynced] at hph
  | reset | failedStart | opened | unseen | unsynced => nomatch hdone
  | sample w hrun | sym b hrun | bit b hrun => simp [hrun] at hdone

/-- A command word presented to a reachable state. -/
theorem Reachable.cmd {s t : State} (hs : Reachable s) (w : CmdWord) (ht : step (offer (.item (.cmd w)) s) = .next t) :
    Reachable t := .input hs rfl ht

/-- Log entry 10: a bit run that emits one BaudotBit is ended, and `CFG MODE` then selects another source. -/
theorem exists_reachable_not_r29c : ∃ s : State, Reachable s ∧ s.ctl.run = .done ∧ ¬R29c s := by
  have hmode := Reachable.reset.cmd 0x1300000004 rfl
  have hstart := hmode.cmd 0x2000000000 rfl
  have hbit := hstart.cmd 0x5000000001 rfl
  have hend := hbit.cmd 0x6000000000 rfl
  have hagain := hend.cmd 0x1300000002 rfl
  refine ⟨_, hagain, rfl, fun h => ?_⟩
  obtain ⟨_, _, _, hnbit⟩ := h nofun
  exact absurd (hnbit nofun) (by decide)

/-- Settles O50: the three parts, the second by whether the command leads into `DONE`. -/
theorem unsynchronisedRunsHaveNoBitsUntilModeIsWritten :
    Obligations.UnsynchronisedRunsHaveNoBitsUntilModeIsWritten := by
  refine ⟨fun s => Inv.r29c, fun i s t h hc hi ht hsrc => ?_, exists_reachable_not_r29c⟩
  have heffect := CommandEffect.of_exec hi ht
  by_cases hdone : t.ctl.run = .done
  · exact hc.effect (h.effect heffect) heffect hdone fun hs => hsrc hs hdone
  · exact (h.effect heffect).r29c hdone

end Sys2Proof.Machine
end

section
/-!
PROOFS. The batch power and frames of spec/41_tone_detector.md (R81, R84, R87, R89). The power is a quadratic form in
the two delay registers; a zero sample leaves the form as it is, and the recurrence is linear in the samples.
-/

namespace Sys2Proof.Machine

/-! ### Padding (R87) -/

/-- A step with sample 0 moves the registers along a curve of equal power. -/
theorem delayPower_channelStep_zero (c : NumQ) (d : Delay) : delayPower c (channelStep c d 0) = delayPower c d := by
  simp only [delayPower, channelStep]
  ring

/-- Settles O38: one zero after another. -/
theorem zeroPaddingKeepsThePower : Obligations.ZeroPaddingKeepsThePower := by
  intro c fr z
  induction z with
  | zero => simp
  | succ z ih =>
    rw [List.replicate_succ', ← List.append_assoc, ← ih, power, power, List.foldl_concat, delayPower_channelStep_zero]

/-! ### The sign of a power (R89) -/

/-- For `|c| ≤ 2` the form is positive semidefinite. -/
theorem delayPower_nonneg {c : NumQ} (hlo : -2 ≤ c) (hhi : c ≤ 2) (d : Delay) : 0 ≤ delayPower c d := by
  have hsquares : delayPower c d
      = ((2 + c) * ((d.s1 - d.s2) * (d.s1 - d.s2)) + (2 - c) * ((d.s1 + d.s2) * (d.s1 + d.s2))) / 4 := by
    simp only [delayPower]
    ring
  rw [hsquares]
  have := mul_nonneg (sub_nonneg.2 hhi) (mul_self_nonneg (d.s1 + d.s2))
  have := mul_nonneg (neg_le_iff_add_nonneg'.1 hlo) (mul_self_nonneg (d.s1 - d.s2))
  linarith

/-- Two samples set the registers to any `s1` over `s2 = 1`. -/
theorem power_pair (c t : NumQ) : power c [1, t - c] = t * t + 1 - c * t := by
  simp only [power, List.foldl_cons, List.foldl_nil, channelStep, delayPower, Delay.zero]
  ring

/-- Settles O39: beyond 2 the registers `(1, 1)`, or `(-1, 1)` below -2, have a negative power. -/
theorem powerIsNonnegativeUpToTwo : Obligations.PowerIsNonnegativeUpToTwo := by
  refine ⟨fun c fr hlo hhi => delayPower_nonneg hlo hhi _, fun c m => ?_, fun c x => ?_, fun c hc => ?_⟩
  · rw [← List.nil_append (List.replicate m 0), zeroPaddingKeepsThePower]
    simp [power, delayPower, Delay.zero]
  · simp [power, delayPower, channelStep, Delay.zero]
  · obtain hc | hc := hc
    · refine ⟨[1, 1 - c], ?_⟩
      rw [power_pair]
      linarith
    · refine ⟨[1, -1 - c], ?_⟩
      rw [power_pair]
      linarith

/-! ### A gain (R84) -/

/-- Both registers times `a`. -/
def Delay.scale (a : NumQ) (d : Delay) : Delay := { s1 := a * d.s1, s2 := a * d.s2 }

/-- The recurrence is linear. -/
theorem channelStep_scale (a c x : NumQ) (d : Delay) :
    channelStep c (d.scale a) (a * x) = (channelStep c d x).scale a := by
  simp only [channelStep, Delay.scale, Delay.mk.injEq, and_true]
  ring

theorem foldl_channelStep_scale (a c : NumQ) (fr : List NumQ) (d : Delay) :
    (fr.map (a * ·)).foldl (channelStep c) (d.scale a) = (fr.foldl (channelStep c) d).scale a := by
  induction fr generalizing d with
  | nil => rfl
  | cons x fr ih => rw [List.map_cons, List.foldl_cons, List.foldl_cons, channelStep_scale, ih]

/-- The form is quadratic. -/
theorem delayPower_scale (a c : NumQ) (d : Delay) : delayPower c (d.scale a) = a * a * delayPower c d := by
  simp only [delayPower, Delay.scale]
  ring

theorem power_map_mul (a c : NumQ) (fr : List NumQ) : power c (fr.map (a * ·)) = a * a * power c fr := by
  have hzero : Delay.zero = Delay.zero.scale a := by simp [Delay.zero, Delay.scale]
  rw [power, hzero, foldl_channelStep_scale, delayPower_scale, power]

/-- Settles O40: relative mode compares two powers, and both are scaled by `a * a`, which is positive. -/
theorem relativeDecisionIgnoresTheGain : Obligations.RelativeDecisionIgnoresTheGain := by
  refine ⟨power_map_mul, fun a c fr ha habs => ?_⟩
  simp only [flagsOf, habs, power_map_mul, toneFlags_relative, mul_lt_mul_iff_right₀ (mul_self_pos.2 ha)]

/-! ### The frames of a buffer (R81) -/

section Groups

variable {α : Type} {f : Nat}

/-- The whole groups and the open group, put together, are the list. -/
theorem flatten_wholeGroups (p : List α) (hf : 0 < f) : (wholeGroups f p).flatten ++ openGroup f p = p := by
  induction p using List.reverseRecOn with
  | nil => simp
  | append_singleton p x ih =>
    by_cases hfull : (openGroup f p).length + 1 = f
    · obtain ⟨hwhole, hopen⟩ := groups_concat_of_full x hf hfull
      rw [hwhole, hopen, List.flatten_concat, List.append_nil, ← List.append_assoc, ih]
    · obtain ⟨hwhole, hopen⟩ := groups_concat_of_open x hf hfull
      rw [hwhole, hopen, ← List.append_assoc, ih]

theorem length_of_mem_wholeGroups {p : List α} {g : List α} (hg : g ∈ wholeGroups f p) : g.length = f := by
  obtain ⟨i, hi, rfl⟩ := List.mem_map.1 hg
  have hend : i * f + f ≤ p.length := by
    calc i * f + f = (i + 1) * f := by ring
      _ ≤ p.length / f * f := Nat.mul_le_mul_right f (List.mem_range.1 hi)
      _ ≤ p.length := Nat.div_mul_le_self _ _
  simp only [slice, List.length_drop, List.length_take]
  omega

end Groups

/-- Settles O41: the frames are the whole groups and, if it has a sample, the open group, which is shorter than `f`. -/
theorem framesPartitionTheBuffer : Obligations.FramesPartitionTheBuffer := by
  intro buf f hf
  have hflat := flatten_wholeGroups buf hf
  have hlen := div_mul_add_length_openGroup (f := f) buf
  have hlt := length_openGroup_lt buf hf
  have hwhole (rest : List (List NumQ)) (i : Nat) (hi : i < buf.length / f) :
      ((wholeGroups f buf ++ rest).getD i []).length = f := by
    have hi' : i < (wholeGroups f buf).length := by simpa using hi
    rw [List.getD_append _ _ _ _ hi', List.getD_eq_getElem _ _ hi']
    exact length_of_mem_wholeGroups (List.getElem_mem hi')
  have hmem (g : List NumQ) (hg : g ∈ wholeGroups f buf) : 1 ≤ g.length ∧ g.length ≤ f := by
    rw [length_of_mem_wholeGroups hg]
    exact ⟨hf, le_rfl⟩
  rw [frames, groups_eq buf hf]
  split
  case isTrue hnil =>
    rw [hnil, List.append_nil] at hflat
    rw [hnil, List.length_nil] at hlen
    rw [List.append_nil, length_wholeGroups]
    exact ⟨hflat, by omega, by omega, fun i hi => by simpa using hwhole [] i (by omega), hmem⟩
  case isFalse hne =>
    have hpos := List.length_pos_of_ne_nil hne
    have hcount : (wholeGroups f buf ++ [openGroup f buf]).length = buf.length / f + 1 := by simp
    have hspan : (buf.length / f + 1) * f = buf.length / f * f + f := Nat.succ_mul _ _
    rw [hcount, hspan]
    refine ⟨by rw [List.flatten_concat, hflat], by omega, by omega, fun i hi => hwhole _ i (by omega), fun g hg => ?_⟩
    obtain hg | hg := List.mem_append.1 hg
    · exact hmem g hg
    · obtain rfl := List.mem_singleton.1 hg
      exact ⟨hpos, hlt.le⟩

end Sys2Proof.Machine
end

section
/-!
PROOFS. The configuration registers and what `RD` reads (R183, R184, R30, R63), row by row, and the `FBX` rows (R100).
-/

namespace Sys2Proof.Machine

open Decode

/-! ### CFG (R183) -/

/-- In `RUN` a `CFG MODE` is refused, whatever its source. -/
theorem exec_cfgMode_of_running {s : State} (hrun : s.ctl.run = .run) (abs : Bit) (src : BitVec 2) :
    exec (.cfgMode abs src) s = .next (refuse s) := by
  have hword : cfgInstr 3 (modeData abs src) = .cfgMode abs src := by simp [cfgInstr]
  rw [← hword]
  exact exec_cfgInstr_of_running hrun 3 _

/-- Settles O14: outside `RUN` the five writable registers are written; in `RUN` every index is refused, and the
reserved source and the other indices always are. -/
theorem cfgWritesOrIsRefused : Obligations.CfgWritesOrIsRefused := by
  intro s d abs
  refine ⟨fun hrun => ?_, fun hrun => ?_, exec_cfgMode_of_reserved rfl abs s, rfl, rfl, rfl, rfl, rfl, rfl, rfl, rfl,
    rfl, rfl, rfl⟩
  · exact ⟨next_cfgWrite_of_not_running hrun _, next_cfgWrite_of_not_running hrun _,
      next_cfgWrite_of_not_running hrun _, next_cfgWrite_of_not_running hrun _,
      exec_cfgMode_of_not_running (r := .samples) hrun rfl abs,
      exec_cfgMode_of_not_running (r := .symbols) hrun rfl abs, exec_cfgMode_of_not_running (r := .bits) hrun rfl abs⟩
  · exact ⟨exec_cfgInstr_of_running hrun 0 d, exec_cfgInstr_of_running hrun 1 d, exec_cfgInstr_of_running hrun 2 d,
      exec_cfgInstr_of_running hrun 4 d, exec_cfgMode_of_running hrun abs⟩

/-! ### The numbers in the registers (R63) -/

/-- Two's complement (R8), by the unsigned word. -/
theorem sint32_eq (w : Word32) :
    sint32 w = if w.toNat < 2 ^ 31 then (w.toNat : Int) else (w.toNat : Int) - 2 ^ 32 := by
  have hhalf : 2 * w.toNat < 2 ^ 32 ↔ w.toNat < 2 ^ 31 := by omega
  rw [sint32, BitVec.toInt_eq_toNat_cond]
  simp only [hhalf]
  rfl

/-- Q16.16 (R8): the two's complement over 65536. -/
theorem q16_mul (w : Word32) :
    q16 w * 65536 = if w.toNat < 2 ^ 31 then (w.toNat : NumQ) else (w.toNat : NumQ) - 2 ^ 32 := by
  rw [q16, div_mul_cancel₀ _ (by norm_num), sint32_eq]
  split <;> push_cast <;> rfl

/-- Settles O16: each register reads the number of its word. -/
theorem registerWordsAreReadAsTheirNumbers : Obligations.RegisterWordsAreReadAsTheirNumbers := by
  refine fun s w => ⟨?_, fun hmark => ?_, fun hspace => ?_, fun hthresh => ?_⟩
  · rintro rfl
    exact sint32_eq s.cfg.frameSize
  · rw [coeff_of_some (ch := .mark) hmark, q16_mul]
  · rw [coeff_of_some (ch := .space) hspace, q16_mul]
  · rw [threshold_of_some hthresh, q16_mul]

/-! ### RD (R184) -/

/-- The number of the `MODE` word (R30). -/
theorem modeWord_toNat (c : Cfg) :
    (modeWord c).toNat = (if c.abs = b1 then 1 else 0) + 2 * (srcCode c.src).toNat := by
  simp only [modeWord, toNat_append_eq_add, BitVec.toNat_ofNat, BitVec.toNat_ofBool, ite_weight_eq_mul,
    Bool.decide_eq_true]
  omega

/-- A counter is read modulo `2 ^ 32` (R27). -/
theorem countWord_eq (n : Nat) : countWord n = BitVec.ofNat 32 (n % 2 ^ 32) := by
  simp [countWord, BitVec.ofNat, Fin.ofNat]

/-- Settles O17: each row reads its register. -/
theorem rdReadsTheNamedRegister : Obligations.RdReadsTheNamedRegister := by
  intro s
  simp only [← countWord_eq]
  refine ⟨rfl, rfl, rfl, ?_, rfl, rfl, rfl, rfl, rfl, rfl, rfl, rfl, rfl, rfl, rfl, _, rfl⟩
  have hword : modeWord s.cfg = BitVec.ofNat 32 (modeWord s.cfg).toNat := by simp
  have hread : exec .rdMode s = .next (afterRead (modeWord s.cfg) s) := rfl
  rw [hread, hword, modeWord_toNat]
  congr!
  cases s.cfg.src <;> rfl

/-! ### FBX (R100) -/

/-- Settles O26: the four rows are `FBX` of their flags. -/
theorem fbxRowsReturnTheMarkFlag : Obligations.FbxRowsReturnTheMarkFlag := fun _ => ⟨rfl, rfl, rfl, rfl⟩

end Sys2Proof.Machine
end

section
/-!
PROOFS. The window rows (R117, R113, R65) and the alternation of the windows (R118). Less than a window stays in `pos`
and `acc`; a whole one gives its vote. Where a Symbol leaves the window depends on where the window stood, not on the
Symbol. -/

namespace Sys2Proof.Machine

/-! ### A window's symbols, one after another -/

@[simp] theorem syncWindow_concat (v : List Bit) (b : Bit) (s : State) :
    syncWindow (v ++ [b]) s = syncExtract b (syncWindow v s) := List.foldl_concat ..

/-- Less than a window, from its position 0, is counted and voted (R117 steps 1 and 2). -/
theorem syncWindow_open {s : State} (hpos : s.sync.pos = 0) (hacc : s.sync.acc = 0) {v : List Bit}
    (hv : v.length < windowLength s.sync.w) :
    syncWindow v s = { s with sync := { s.sync with pos := v.length, acc := votes v } } := by
  induction v using List.reverseRecOn with
  | nil =>
    obtain ⟨_, _, _, ⟨_, _, _, _, _⟩, _⟩ := s
    cases hpos
    cases hacc
    rfl
  | append_singleton v b ih =>
    rw [List.length_append, List.length_singleton] at hv
    rw [syncWindow_concat, ih (by omega), syncExtract_open (by simpa using hv.ne), voteSum_votes]
    simp

/-- A whole window, from its position 0, emits its vote and flips `W` (R117 step 3). -/
theorem syncWindow_whole {s : State} (hpos : s.sync.pos = 0) (hacc : s.sync.acc = 0) {v : List Bit}
    (hv : v.length = windowLength s.sync.w) :
    syncWindow v s
      = afterBit (vote v) { s with sync := { s.sync with pos := 0, acc := 0, w := flipWindow s.sync.w } } := by
  have hw := windowLength_pos s.sync.w
  obtain rfl | ⟨v, b, rfl⟩ := List.eq_nil_or_concat' v
  · simp at hv
    omega
  · rw [List.length_append, List.length_singleton] at hv
    rw [syncWindow_concat, syncWindow_open hpos hacc (by omega), syncExtract_last hv, voteSum_votes, ← vote_eq,
      emitBit_eq_afterBit]

/-- The vote of a window looks at its positions 1 to 5 (R113). -/
theorem vote_window (x0 x1 x2 x3 x4 x5 : Bit) (rest : List Bit) :
    vote (x0 :: x1 :: x2 :: x3 :: x4 :: x5 :: rest)
      = decide (3 ≤ bitNat x1 + bitNat x2 + bitNat x3 + bitNat x4 + bitNat x5) := by
  have hdata : slice (x0 :: x1 :: x2 :: x3 :: x4 :: x5 :: rest) Config.firstDataPos (Config.lastDataPos + 1)
      = [x1, x2, x3, x4, x5] := by simp [slice]
  simp [vote, hdata, Nat.add_assoc]

/-- Settles O29: a row of the open window's length is a whole window. -/
theorem windowRowsEmitTheMajority : Obligations.WindowRowsEmitTheMajority := by
  intro s x0 x1 x2 x3 x4 x5 x6 x7 hpos hacc
  refine ⟨fun hw => ?_, fun hw => ?_⟩
  · rw [← vote_window x0 x1 x2 x3 x4 x5 [x6], exec, execSyncExtractW7, syncWindow_whole hpos hacc (by simp [hw]), hw]
    rfl
  · rw [← vote_window x0 x1 x2 x3 x4 x5 [x6, x7], exec, execSyncExtractW8, syncWindow_whole hpos hacc (by simp [hw]),
      hw]
    rfl

/-! ### The alternation of the windows (R118) -/

/-- Instructions that all answer a next state run as a fold of their operation. -/
theorem execAll_map {α : Type} {f : α → Instr} {op : α → State → State} (hf : ∀ a s, exec (f a) s = .next (op a s))
    (l : List α) (s : State) : execAll (l.map f) s = .next (l.foldl (fun t a => op a t) s) := by
  induction l generalizing s with
  | nil => rfl
  | cons a l ih => rw [List.map_cons, execAll, hf, List.foldl_cons, ← ih]

/-- Two synchronised states at the same place of the same window, with as many BaudotBits. -/
structure SameWindow (s1 s2 : State) : Prop where
  synced1 : s1.sync.ph = .extract
  synced2 : s2.sync.ph = .extract
  w : s1.sync.w = s2.sync.w
  pos : s1.sync.pos = s2.sync.pos
  nbit : s1.cnt.nbit = s2.cnt.nbit

/-- A Symbol of any value moves a synchronised state to the same place (R117). -/
theorem syncStep_place {s : State} (hph : s.sync.ph = .extract) (b : Bit) :
    (syncStep b s).sync.ph = .extract
      ∧ if s.sync.pos + 1 = windowLength s.sync.w then
          (syncStep b s).sync.w = flipWindow s.sync.w ∧ (syncStep b s).sync.pos = 0
            ∧ (syncStep b s).cnt.nbit = s.cnt.nbit + 1
        else
          (syncStep b s).sync.w = s.sync.w ∧ (syncStep b s).sync.pos = s.sync.pos + 1
            ∧ (syncStep b s).cnt.nbit = s.cnt.nbit := by
  rw [syncStep_of_extract hph]
  split
  case isTrue hlast =>
    rw [syncExtract_last hlast]
    generalize decide (3 ≤ voteSum b s.sync) = v
    obtain ⟨_, hnbit, _⟩ := emitBit_counts v
      { s with sync := { s.sync with pos := 0, acc := 0, w := flipWindow s.sync.w } }
    exact ⟨by simp [hph], by simp, by simp, hnbit⟩
  case isFalse hopen =>
    rw [syncExtract_open hopen]
    exact ⟨hph, rfl, rfl, rfl⟩

theorem SameWindow.syncStep {s1 s2 : State} (h : SameWindow s1 s2) (b1 b2 : Bit) :
    SameWindow (syncStep b1 s1) (syncStep b2 s2) := by
  obtain ⟨hph1, hplace1⟩ := syncStep_place h.synced1 b1
  obtain ⟨hph2, hplace2⟩ := syncStep_place h.synced2 b2
  rw [h.w, h.pos, h.nbit] at hplace1
  split at hplace1 <;> rename_i hlast
  · rw [if_pos hlast] at hplace2
    obtain ⟨hw1, hpos1, hnbit1⟩ := hplace1
    obtain ⟨hw2, hpos2, hnbit2⟩ := hplace2
    exact ⟨hph1, hph2, hw1.trans hw2.symm, hpos1.trans hpos2.symm, hnbit1.trans hnbit2.symm⟩
  · rw [if_neg hlast] at hplace2
    obtain ⟨hw1, hpos1, hnbit1⟩ := hplace1
    obtain ⟨hw2, hpos2, hnbit2⟩ := hplace2
    exact ⟨hph1, hph2, hw1.trans hw2.symm, hpos1.trans hpos2.symm, hnbit1.trans hnbit2.symm⟩

/-- Equally many Symbols, one after another. -/
theorem SameWindow.syncSteps {s1 s2 : State} (h : SameWindow s1 s2) {l1 l2 : List Bit} (hlen : l1.length = l2.length) :
    SameWindow (l1.foldl (fun t b => Machine.syncStep b t) s1) (l2.foldl (fun t b => Machine.syncStep b t) s2) := by
  induction l1 generalizing s1 s2 l2 with
  | nil =>
    obtain rfl := List.length_eq_zero_iff.1 hlen.symm
    exact h
  | cons b1 l1 ih =>
    cases l2 with
    | nil => simp at hlen
    | cons b2 l2 => exact ih (h.syncStep b1 b2) (by simpa using hlen)

/-- Settles O57: the Symbols of either list keep the two states at the same place. -/
theorem windowAlternationIgnoresTheData : Obligations.WindowAlternationIgnoresTheData := by
  intro s1 s2 l1 l2 hph1 hph2 hw hpos hnbit hlen
  have h := SameWindow.syncSteps ⟨hph1, hph2, hw, hpos, hnbit⟩ hlen
  exact ⟨_, _, execAll_map (fun _ _ => rfl) l1 s1, execAll_map (fun _ _ => rfl) l2 s2, h.w, h.pos, h.nbit⟩

end Sys2Proof.Machine
end

section
/-!
PROOFS. The `CHARFRAME` rows (R66, R132 to R138, R141 to R173): a row closes its chunk, whose character is that of the
chunk's key; pushed BaudotBit by BaudotBit into a decoder with no chunk open, the chunk gives the same.
-/

namespace Sys2Proof.Machine

open Decode

/-! ### The rows and their characters -/

/-- A chunk closed whole, in closed form (R134, R137). -/
theorem closeChunk_eq_afterChar (ch : List Bit) (s : State) : closeChunk ch s = afterChar (chunkChar ch) s := rfl

/-- A row with a complete key emits the character of its key, whatever its start and stop bits. -/
theorem exec_codeInstr_eq_afterChar (k0 k1 k2 k3 k4 start : Bit) (stop1 stop2 : Option Bit) (s : State) :
    exec (codeInstr k0 k1 k2 k3 k4 start stop1 stop2) s = .next (afterChar (charOfKey [k0, k1, k2, k3, k4]) s) := by
  rw [exec_codeInstr, closeChunk_eq_afterChar, chunkChar_frameBits]

/-- Settles O31: the character of each key is read off the table. -/
theorem codeRowsNulToIEmitTheirByte : Obligations.CodeRowsNulToIEmitTheirByte := fun s a y z =>
  ⟨exec_codeInstr_eq_afterChar b0 b0 b0 b0 b0 a y z s, exec_codeInstr_eq_afterChar b0 b0 b1 b0 b0 a y z s,
    exec_codeInstr_eq_afterChar b1 b0 b1 b1 b1 a y z s, exec_codeInstr_eq_afterChar b1 b0 b0 b1 b1 a y z s,
    exec_codeInstr_eq_afterChar b0 b0 b0 b0 b1 a y z s, exec_codeInstr_eq_afterChar b0 b1 b0 b1 b0 a y z s,
    exec_codeInstr_eq_afterChar b1 b0 b0 b0 b0 a y z s, exec_codeInstr_eq_afterChar b1 b0 b1 b0 b1 a y z s,
    exec_codeInstr_eq_afterChar b0 b0 b1 b1 b1 a y z s, exec_codeInstr_eq_afterChar b0 b0 b1 b1 b0 a y z s⟩

/-- Settles O32, as O31. -/
theorem codeRowsOToKEmitTheirByte : Obligations.CodeRowsOToKEmitTheirByte := fun s a y z =>
  ⟨exec_codeInstr_eq_afterChar b1 b1 b0 b0 b0 a y z s, exec_codeInstr_eq_afterChar b1 b0 b1 b1 b0 a y z s,
    exec_codeInstr_eq_afterChar b0 b0 b0 b1 b1 a y z s, exec_codeInstr_eq_afterChar b0 b0 b1 b0 b1 a y z s,
    exec_codeInstr_eq_afterChar b0 b1 b0 b0 b1 a y z s, exec_codeInstr_eq_afterChar b0 b1 b1 b0 b1 a y z s,
    exec_codeInstr_eq_afterChar b1 b1 b0 b1 b0 a y z s, exec_codeInstr_eq_afterChar b1 b0 b1 b0 b0 a y z s,
    exec_codeInstr_eq_afterChar b0 b1 b0 b1 b1 a y z s, exec_codeInstr_eq_afterChar b0 b1 b1 b1 b1 a y z s⟩

/-- Settles O33, as O31. -/
theorem codeRowsLToLfEmitTheirByte : Obligations.CodeRowsLToLfEmitTheirByte := fun s a y z =>
  ⟨exec_codeInstr_eq_afterChar b1 b0 b0 b1 b0 a y z s, exec_codeInstr_eq_afterChar b1 b0 b0 b0 b1 a y z s,
    exec_codeInstr_eq_afterChar b1 b1 b1 b0 b1 a y z s, exec_codeInstr_eq_afterChar b0 b1 b1 b1 b0 a y z s,
    exec_codeInstr_eq_afterChar b1 b1 b1 b1 b0 a y z s, exec_codeInstr_eq_afterChar b1 b1 b0 b0 b1 a y z s,
    exec_codeInstr_eq_afterChar b0 b1 b1 b0 b0 a y z s, exec_codeInstr_eq_afterChar b1 b1 b1 b0 b0 a y z s,
    exec_codeInstr_eq_afterChar b0 b1 b0 b0 b0 a y z s, exec_codeInstr_eq_afterChar b0 b0 b0 b1 b0 a y z s⟩

/-! ### Keys without an entry -/

/-- Every key of the table has five bits. -/
theorem codeTable_of_length_lt {key : List Bit} (h : key.length < 5) : codeTable key = none := by
  refine List.lookup_eq_none_iff.2 fun e he => ?_
  have hlen := length_key_of_mem_codeEntries e he
  rw [bne_iff_ne]
  rintro rfl
  omega

/-- A chunk that ends before its key is complete falls back to a space (R173). -/
theorem chunkChar_of_length_le {ch : List Bit} (h : ch.length ≤ 5) : chunkChar ch = 0x20 := by
  have hlen : (chunkKey ch).length = min 6 ch.length - 1 := by simp [chunkKey, slice]
  exact (charOfKey_eq_space_iff _).2 (.inr (codeTable_of_length_lt (by omega)))

/-- Settles O34: these keys have no entry, so their character is the fallback. -/
theorem unmappedAndShortKeysEmitASpace : Obligations.UnmappedAndShortKeysEmitASpace := by
  have hshort {ch : List Bit} (h : ch.length ≤ 5) (s : State) :
      (.next (closeChunk ch s) : Result) = .next (afterChar 0x20 s) := by
    rw [closeChunk_eq_afterChar, chunkChar_of_length_le h]
  refine ⟨fun s a y z => ?_, rfl, rfl, fun key => codeTable_of_length_lt, fun s x k1 k2 k3 k4 => ?_⟩
  · exact ⟨exec_codeInstr_eq_afterChar b1 b1 b0 b1 b1 a y z s, exec_codeInstr_eq_afterChar b1 b1 b1 b1 b1 a y z s⟩
  · exact ⟨hshort (by simp) s, hshort (by simp) s, hshort (by simp) s, hshort (by simp) s, hshort (by simp) s⟩

/-! ### A row and its BaudotBits pushed one at a time -/

/-- A frame or a last chunk decodes to a row, and the row closes it (R60, R66). -/
theorem exists_charFrame_row {bits : List Bit} (hpos : 1 ≤ bits.length) (hle : bits.length ≤ 8) :
    ∃ i, decode (.charFrame bits) = .ok i ∧ ∀ s, exec i s = .next (closeChunk bits s) := by
  match bits with
  | [] => simp at hpos
  | [_] | [_, _] | [_, _, _] | [_, _, _, _] | [_, _, _, _, _] => exact ⟨_, rfl, fun _ => rfl⟩
  | [start, k0, k1, k2, k3, k4] => exact ⟨_, rfl, exec_codeInstr k0 k1 k2 k3 k4 start none none⟩
  | [start, k0, k1, k2, k3, k4, stop1] => exact ⟨_, rfl, exec_codeInstr k0 k1 k2 k3 k4 start (some stop1) none⟩
  | [start, k0, k1, k2, k3, k4, stop1, stop2] =>
    exact ⟨_, rfl, exec_codeInstr k0 k1 k2 k3 k4 start (some stop1) (some stop2)⟩
  | _ :: _ :: _ :: _ :: _ :: _ :: _ :: _ :: _ :: _ =>
    simp only [List.length_cons] at hle
    omega

/-- The BaudotBits `l` pushed one after another (R136). -/
def decPushes (l : List Bit) (s : State) : State := l.foldl (fun t b => decPush b t) s

theorem execAll_decPushes (l : List Bit) (s : State) : execAll (l.map Instr.decPush) s = .next (decPushes l s) :=
  execAll_map (fun _ _ => rfl) l s

section Chunk

variable {s : State} (hk : s.dec.k = 0) (hkey : s.dec.key = [])

include hk hkey

/-- Less than a chunk stays open, with its key. -/
theorem decPushes_open {l : List Bit} (hl : l.length ≤ 7) :
    decPushes l s = { s with dec := { k := l.length, key := chunkKey l } } := by
  induction l using List.reverseRecOn with
  | nil =>
    obtain ⟨_, _, _, _, ⟨_, _⟩, _⟩ := s
    cases hk
    cases hkey
    rfl
  | append_singleton l b ih =>
    rw [List.length_append, List.length_singleton] at hl
    rw [decPushes, List.foldl_concat, ← decPushes, ih (by omega), decPush_open (by simp; omega), pushBit,
      chunkKey_concat, List.length_append, List.length_singleton]

/-- The eighth BaudotBit closes the chunk; it is no part of the key. -/
theorem decPushes_eight {l : List Bit} (hl : l.length = 8) : decPushes l s = closeChunk l s := by
  obtain rfl | ⟨l, b, rfl⟩ := List.eq_nil_or_concat' l
  · simp at hl
  · have hl' : l.length = 7 := by simpa using hl
    have hchar : chunkKey (l ++ [b]) = chunkKey l := by
      rw [chunkKey_concat, hl']
      rfl
    rw [decPushes, List.foldl_concat, ← decPushes, decPushes_open hk hkey hl'.le, decPush_last (by simp [hl']),
      closeChunk_eq_afterChar, chunkChar, hchar]
    rfl

/-- A flush closes what the pushes left open. -/
theorem decFlush_decPushes {l : List Bit} (hpos : 1 ≤ l.length) (hl : l.length ≤ 7) :
    decFlush (decPushes l s) = closeChunk l s := by
  rw [decPushes_open hk hkey hl, decFlush_of_open (by simpa using hpos)]
  rfl

end Chunk

/-- Settles O35: the row closes its frame, and so do the eight pushes. -/
theorem frameRowsAgreeWithEightPushes : Obligations.FrameRowsAgreeWithEightPushes := by
  intro s bits hk hkey hlen
  obtain ⟨i, hi, hexec⟩ := exists_charFrame_row (bits := bits) (by omega) (by omega)
  refine ⟨i, hi, ?_⟩
  rw [execAll_decPushes, decPushes_eight hk hkey hlen, hexec]

/-- Settles O36: the row closes its chunk, and so do the pushes and the flush. -/
theorem lastChunkRowsAgreeWithPushesAndFlush : Obligations.LastChunkRowsAgreeWithPushesAndFlush := by
  intro s bits hk hkey hpos hle
  obtain ⟨i, hi, hexec⟩ := exists_charFrame_row (bits := bits) hpos (by omega)
  refine ⟨i, hi, ?_⟩
  rw [execAll_append _ (execAll_decPushes bits s), hexec, ← decFlush_decPushes hk hkey hpos hle]
  rfl

end Sys2Proof.Machine
end

section
/-!
PROOFS. A run owes nothing to the run before it (R33, R233). After an accepted `START` two blocks of one configuration
differ in `rdata` and in the model's own group alone. No command reads `rdata`; of the model's group, only the value
of a coefficient or threshold that is `none` depends, and an open run reads no such value (R185 steps 2 and 3).
-/

namespace Sys2Proof.Machine

/-! ### What the run before leaves -/

/-- `s` with another `rdata` and another group of the model's own: what is left of the past after `START`. -/
def withPast (v : Word32) (e : Env) (s : State) : State := { s with ctl := { s.ctl with rdata := v }, env := e }

/-- An open run has every value it needs (R185 steps 2 and 3). -/
def HasValues (s : State) : Prop := s.ctl.run = .run → missesValue s.cfg = false

section Past

variable {s t : State} {i : Instr} (v : Word32) (e : Env)

/-- What an accepted `START` finds (R185). -/
theorem start_conditions (hacc : accepted .start s = true) : s.ctl.run ≠ .run ∧ missesValue s.cfg = false := by
  simpa [accepted_start] using hacc

/-- Values that are there stay there: the configuration is not changed in `RUN`, and `START` tests them. -/
theorem HasValues.effect (h : HasValues s) (ht : CommandEffect s i t) : HasValues t := by
  cases ht with
  | refused | observed => exact h
  | configured _ _ hrun => exact fun hopen => absurd hopen hrun
  | opened hacc => exact fun _ => (start_conditions hacc).2
  | reset | failedStart | unseen | unsynced | finished => nofun
  | sample | sym | bit => simpa [HasValues] using h

/-! ### The operations of a run -/

/-- An operation that goes by the pipeline alone does not see the past. -/
theorem commutes_withPast {op : State → State} (hop : ∀ f s, op (withFront f s) = withFront f (op s))
    (hcfg : (op s).cfg = s.cfg) (hctl : (op s).ctl = s.ctl) (htone : (op s).tone = s.tone) :
    op (withPast v e s) = withPast v e (op s) := by
  have hfront : withPast v e s = withFront (withPast v e s) s := rfl
  rw [hfront, hop]
  simp only [withFront, withPast, hcfg, hctl, htone]

theorem emitBit_withPast (b : Bit) : emitBit b (withPast v e s) = withPast v e (emitBit b s) :=
  commutes_withPast v e (fun f s => emitBit_withFront f s b) (emitBit_cfg b s) (emitBit_ctl b s) (emitBit_tone b s)

theorem emitSym_withPast (b : Bit) : emitSym b (withPast v e s) = withPast v e (emitSym b s) :=
  commutes_withPast v e (fun f s => emitSym_withFront f s b) (emitSym_cfg b s) (emitSym_ctl b s) (emitSym_tone b s)

theorem decFlush_withPast : decFlush (withPast v e s) = withPast v e (decFlush s) := by
  obtain ⟨hcfg, hctl, htone, _⟩ := decFlush_frame s
  exact commutes_withPast v e decFlush_withFront hcfg hctl htone

section Samples

variable (hsrc : s.cfg.src = .samples) (hval : missesValue s.cfg = false)

include hsrc hval

/-- A coefficient that has been written is read as written (R63). -/
theorem coeff_withPast (ch : Channel) : coeff ch (withPast v e s) = coeff ch s := by
  obtain ⟨hmark, hspace, _⟩ := (missesValue_eq_false_iff s.cfg).1 hval hsrc
  obtain ⟨w, hw⟩ : ∃ w, coeffWord ch s.cfg = some w := by
    cases ch
    · exact Option.ne_none_iff_exists'.1 hmark
    · exact Option.ne_none_iff_exists'.1 hspace
  rw [coeff_of_some hw, coeff_of_some (s := withPast v e s) hw]

/-- The flags read the threshold in absolute mode alone, where it has been written (R84). -/
theorem frameFlags_withPast : frameFlags (withPast v e s) = frameFlags s := by
  obtain ⟨_, _, hthresh⟩ := (missesValue_eq_false_iff s.cfg).1 hval hsrc
  simp only [frameFlags, coeff_withPast v e hsrc hval]
  cases habs : s.cfg.abs with
  | false => simp [withPast, habs]
  | true =>
    obtain ⟨w, hw⟩ := Option.ne_none_iff_exists'.1 (hthresh habs)
    rw [← habs, threshold_of_some hw, threshold_of_some (s := withPast v e s) hw]
    rfl

theorem fclose_withPast : fclose (withPast v e s) = withPast v e (fclose s) := by
  rw [fclose, fclose, frameFlags_withPast v e hsrc hval]
  exact emitSym_withPast (s := { s with tone := closedTone (frameFlags s) s.tone }) v e _

theorem takeSample_withPast (x : NumQ) : takeSample x (withPast v e s) = withPast v e (takeSample x s) := by
  simp only [takeSample, coeff_withPast v e hsrc hval]
  rfl

theorem gstep_withPast (x : NumQ) : gstep x (withPast v e s) = withPast v e (gstep x s) := by
  rw [gstep, gstep, takeSample_withPast v e hsrc hval, apply_ite (withPast v e),
    fclose_withPast (s := takeSample x s) v e hsrc hval]
  rfl

end Samples

theorem closeShortFrame_withPast (hval : missesValue s.cfg = false) :
    closeShortFrame (withPast v e s) = withPast v e (closeShortFrame s) := by
  by_cases hframe : s.cfg.src = .samples ∧ 0 < s.tone.n
  · rw [closeShortFrame, closeShortFrame, if_pos hframe, ← fclose_withPast v e hframe.1 hval]
    exact if_pos hframe
  · rw [closeShortFrame, closeShortFrame, if_neg hframe]
    exact if_neg hframe

/-! ### The commands -/

theorem accepted_withPast (i : Instr) (s : State) : accepted i (withPast v e s) = accepted i s := by
  cases i <;> rfl

/-- A `CFG` that may be written is one write of the configuration (R183). -/
theorem exists_cfgWrite (hi : isCfgWrite i = true) : ∃ f, ∀ s, exec i s = .next (cfgWrite f s) := by
  cases i
  case cfgFrameSize | cfgCoeffMark | cfgCoeffSpace | cfgThresh => exact ⟨_, fun _ => rfl⟩
  case cfgMode abs src =>
    obtain ⟨r, hr⟩ := Option.isSome_iff_exists.1 hi
    refine ⟨fun c => { c with abs := abs, src := r }, fun s => ?_⟩
    rw [exec, execCfgMode, hr]
  all_goals exact absurd hi Bool.false_ne_true

theorem cfgWrite_withPast (f : Cfg → Cfg) (s : State) :
    cfgWrite f (withPast v e s) = withPast v e (cfgWrite f s) := by
  rw [cfgWrite, cfgWrite, apply_ite (withPast v e)]
  rfl

/-- An accepted `START` that finds no bad size opens the run (R185 step 6). -/
theorem exec_start_of_accepted_of_good (hacc : accepted .start s = true)
    (hgood : ¬(s.cfg.src = .samples ∧ frameSize s ≤ 0)) : exec .start s = .next (opened s) := by
  obtain ⟨hrun, hval⟩ := start_conditions hacc
  exact exec_start_of_good hrun hval hgood

/-- A command does the same whatever the past, but for the past itself. -/
theorem exec_withPast (hs : HasValues s) (hi : i.isCommand = true) (ht : exec i s = .next t) :
    ∃ v' e', exec i (withPast v e s) = .next (withPast v' e' t) := by
  cases CommandEffect.of_exec hi ht with
  | refused hacc =>
    exact ⟨v, e, refusedCommandsSetRejAndNothingElse i _ hi ((accepted_withPast v e i s).trans hacc)⟩
  | reset => exact ⟨_, _, rfl⟩
  | observed hobs =>
    obtain ⟨v', hv'⟩ := exec_of_isObserver hobs (withPast v e s)
    exact ⟨v', e, hv'⟩
  | configured hwrite =>
    obtain ⟨f, hf⟩ := exists_cfgWrite hwrite
    refine ⟨v, e, ?_⟩
    rw [hf, cfgWrite_withPast, Host.Outcome.next.inj ((hf s).symm.trans ht)]
  | failedStart hacc hbad =>
    exact ⟨v, e, exec_start_of_accepted_of_bad_size (s := withPast v e s) hacc hbad.1 hbad.2⟩
  | opened hacc hgood => exact ⟨v, e, exec_start_of_accepted_of_good (s := withPast v e s) hacc hgood⟩
  | sample w hrun hsrc =>
    refine ⟨v, e, ?_⟩
    rw [exec_sample_of_running (s := withPast v e s) w hrun hsrc, gstep_withPast v e hsrc (hs hrun)]
  | sym b hrun hsrc =>
    refine ⟨v, e, ?_⟩
    rw [exec, execSym, feed_of_open (s := withPast v e s) ⟨hrun, hsrc⟩, emitSym_withPast]
  | bit b hrun hsrc =>
    refine ⟨v, e, ?_⟩
    rw [exec, execBit, feed_of_open (s := withPast v e s) ⟨hrun, hsrc⟩, emitBit_withPast]
  | unseen hrun hsrc hseen =>
    exact ⟨v, e, exec_endRun_of_unseen (s := withPast v e s) hrun ⟨hsrc, hseen⟩⟩
  | unsynced hrun hseen hsrc hph =>
    have hclose := closeShortFrame_withPast v e (hs hrun)
    refine ⟨v, e, ?_⟩
    rw [exec_endRun_of_unsynced (s := withPast v e s) hrun hseen hsrc (by rwa [hclose]), hclose]
    rfl
  | finished hrun hseen hok =>
    have hclose := closeShortFrame_withPast v e (hs hrun)
    refine ⟨v, e, ?_⟩
    rw [exec_endRun_of_synced (s := withPast v e s) hrun hseen (by rwa [hclose]), hclose, decFlush_withPast]
    rfl

/-- So do any commands, one after another. -/
theorem execAll_withPast {cmds : List Instr} (hcmds : ∀ i ∈ cmds, i.isCommand = true) (hs : HasValues s) :
    ∃ t v' e', execAll cmds s = .next t ∧ execAll cmds (withPast v e s) = .next (withPast v' e' t) := by
  induction cmds generalizing s v e with
  | nil => exact ⟨s, v, e, rfl, rfl⟩
  | cons i is ih =>
    obtain ⟨hi, his⟩ := List.forall_mem_cons.1 hcmds
    obtain ⟨u, hu⟩ := exec_next i s
    obtain ⟨v', e', hu'⟩ := exec_withPast v e hs hi hu
    simp only [execAll, hu, hu']
    exact ih v' e' his (hs.effect (.of_exec hi hu))

end Past

/-- Of the state before an accepted `START` only the configuration, `rdata` and the model's own group come through it.
-/
theorem exec_start_of_cfg_eq {s1 s2 : State} (hcfg : s1.cfg = s2.cfg) (hacc1 : accepted .start s1 = true)
    (hacc2 : accepted .start s2 = true) :
    ∃ t, exec .start s1 = .next t ∧ exec .start s2 = .next (withPast s2.ctl.rdata s2.env t) := by
  have hclear (r : RunState) (err : ErrCause) : { clearRun s2 with ctl := ⟨r, err, b0, s2.ctl.rdata⟩ }
      = withPast s2.ctl.rdata s2.env { clearRun s1 with ctl := ⟨r, err, b0, s1.ctl.rdata⟩ } := by
    simp [clearRun, withPast, hcfg]
  by_cases hbad : s1.cfg.src = .samples ∧ frameSize s1 ≤ 0
  · have hbad2 : s2.cfg.src = .samples ∧ frameSize s2 ≤ 0 := by rwa [← hcfg, ← frameSize_congr hcfg]
    refine ⟨_, exec_start_of_accepted_of_bad_size hacc1 hbad.1 hbad.2, ?_⟩
    rw [exec_start_of_accepted_of_bad_size hacc2 hbad2.1 hbad2.2]
    exact congrArg Host.Outcome.next (hclear .err .invalidFrameSize)
  · have hgood2 : ¬(s2.cfg.src = .samples ∧ frameSize s2 ≤ 0) := by rwa [← hcfg, ← frameSize_congr hcfg]
    refine ⟨_, exec_start_of_accepted_of_good hacc1 hbad, ?_⟩
    rw [exec_start_of_accepted_of_good hacc2 hgood2]
    exact congrArg Host.Outcome.next (hclear .run .none)

/-- Settles O58: after `START` the two states differ in the past alone, and the commands keep it so. -/
theorem runsOweNothingToTheRunBefore : Obligations.RunsOweNothingToTheRunBefore := by
  intro s1 s2 cmds hcfg hacc1 hacc2 hcmds
  obtain ⟨u, hu1, hu2⟩ := exec_start_of_cfg_eq hcfg hacc1 hacc2
  have hvalues : HasValues s1 := fun hrun => absurd hrun (start_conditions hacc1).1
  obtain ⟨t, v, e, ht1, ht2⟩ :=
    execAll_withPast s2.ctl.rdata s2.env hcmds (hvalues.effect (.of_exec (i := .start) rfl hu1))
  refine ⟨t, withPast v e t, ?_, ?_, rfl, rfl, rfl, rfl, rfl, rfl, rfl⟩
  · rw [execAll, hu1]
    exact ht1
  · rw [execAll, hu2]
    exact ht2

end Sys2Proof.Machine
end
